-- ==== Sys2Proof/Word.lean ====
section
/-! DEFINITION. The word types of the core: one byte is eight bits, bit 7 the most significant, and
every value is unsigned (00_scope.md R8). -/

namespace Sys2Proof

/-- One byte, the width of every input transfer (00_scope.md R8, 20_memory.md R56). -/
abbrev Byte := BitVec 8

/-- The operation selector word OPW, eleven bits (30_encoding.md R80). -/
abbrev Opw := BitVec 11

/-- An annunciator code or ROM entry: two characters, the first in bits 15:8 (20_memory.md R51). -/
abbrev Code16 := BitVec 16

/-- Sixteen bytes: the frame buffer, or a frame in wire or in logical order (00_scope.md R9). -/
abbrev Frame := Vector Byte 16

end Sys2Proof
end

