-- ==== Sys2Proof/Config.lean ====
section
/-! DEFINITION. What an implementation fixes (the parameters of 00_scope.md R6), the values on the
input ports (10_state.md R38), and the one free value of the model: the port values that nothing
scripts. -/

namespace Sys2Proof

/-- FRAME_LEN, the constant 16 (00_scope.md R6). -/
def Config.frameLen : Nat := 16

/-- The implementation parameters of 00_scope.md R6. BUDGET is legal in 1..255 (WellFormed.lean
checks that it is not 0); the other three are OPEN and may hold any value. -/
structure Params where
  /-- BUDGET, the byte budget of phases 1 and 2. -/
  budget : BitVec 8
  /-- START_MARKER. -/
  startMarker : Byte
  /-- END_MARKER. -/
  endMarker : Byte
  /-- ANN_CODE[0..15], the ROM contents (20_memory.md R51). -/
  annCode : Vector Code16 16
deriving DecidableEq, Repr

/-- The FIXTURE table of 95_test_vectors.md section 1, the codes "Aa" to "Pp". DESIGN CHOICE as a
default: it is a test device only and says nothing of the instrument (log entry 3). -/
def Params.fixtureCodes : Vector Code16 16 :=
  #v[0x4161#16, 0x4262#16, 0x4363#16, 0x4464#16, 0x4565#16, 0x4666#16, 0x4767#16, 0x4868#16,
     0x4969#16, 0x4A6A#16, 0x4B6B#16, 0x4C6C#16, 0x4D6D#16, 0x4E6E#16, 0x4F6F#16, 0x5070#16]

/-- The default parameters of 00_scope.md R6 and 30_encoding.md R90: BUDGET 32, START 0x02, END
0x0D, ROM FIXTURE. DESIGN CHOICE for the OPEN ones (log entries 2 and 3). -/
def Params.default : Params :=
  { budget := 32#8, startMarker := 0x02#8, endMarker := 0x0D#8, annCode := Params.fixtureCodes }

/-- The two-valued levels on the input ports at one rising edge (10_state.md R38). -/
structure Inputs where
  /-- `rst`, synchronous reset, active high. -/
  rst : Bool
  /-- `start`, begin acquisition. -/
  start : Bool
  /-- `stop`, end the loop at the next iteration boundary. -/
  stop : Bool
  /-- `in_valid`, the byte source offers `in_data`. -/
  inValid : Bool
  /-- `in_data`, the offered byte. -/
  inData : Byte
  /-- `in_timeout`, the current read timed out. -/
  inTimeout : Bool
  /-- `in_exhausted`, the source can never produce another byte. -/
  inExhausted : Bool
  /-- `out_ready`, the sink accepts the offered result. -/
  outReady : Bool
deriving DecidableEq, Repr, Inhabited

/-- FREE VALUE. The port values at an edge that no script covers: the environment may drive anything
(70_reset_and_hazards.md R282, R283; 93_implementation_defined.md I19). Nothing can be proved of
them (log entry 4). -/
opaque Config.freeInputs : Nat → Inputs

end Sys2Proof
end

