-- ==== Sys2Proof/Syntax.lean ====
section
/-! DEFINITION. The operations of the core (30_encoding.md R82, one constructor per row of the
opcode table), the names of the FSM states, the read outcomes, and the decoder's refusals. -/

namespace Sys2Proof

/-- The 23 operations. No row of the table has an operand field (30_encoding.md R82): what an
operation works on is registers and sampled inputs. -/
inductive Instr where
  | reset             -- RESET
  | idleWait          -- IDLE.WAIT
  | idleStart         -- IDLE.START
  | idleStop          -- IDLE.STOP
  | seekMark          -- SEEK.MARK
  | seekOther         -- SEEK.OTHER
  | seekExhausted     -- SEEK.EXHAUSTED
  | seekTimeout       -- SEEK.TIMEOUT
  | seekNone          -- SEEK.NONE
  | skipMark          -- SKIP.MARK
  | skipOther         -- SKIP.OTHER
  | skipExhausted     -- SKIP.EXHAUSTED
  | skipTimeout       -- SKIP.TIMEOUT
  | skipNone          -- SKIP.NONE
  | collectByte       -- COLLECT.BYTE
  | collectExhausted  -- COLLECT.EXHAUSTED
  | collectTimeout    -- COLLECT.TIMEOUT
  | collectNone       -- COLLECT.NONE
  | decodeFrame       -- DECODE
  | emitHold          -- EMIT.HOLD
  | emitRelease       -- EMIT.RELEASE
  | stoppedHold       -- STOPPED.HOLD
  | doneHold          -- DONE.HOLD
deriving DecidableEq, Repr

/-- The FSM states (10_state.md R21). All eight codes of the 3-bit register are used. -/
inductive Fsm where
  | idle | seek | skip | collect | decode | emit | stopped | done
deriving DecidableEq, Repr

/-- The read outcomes of 30_encoding.md R81. -/
inductive ReadOutcome where
  | mark | other | exhausted | timeout | none
deriving DecidableEq, Repr

/-- Why the decoder refuses a number. -/
inductive DecodeRefusal where
  /-- The number has a bit above bit 10, so it is no OPW (30_encoding.md R80). Safe. -/
  | widerThanOpw
deriving DecidableEq, Repr

end Sys2Proof
end

