-- ==== Sys2Proof/WellFormed.lean ====
section
/-! DEFINITION. What is well formed: an operation (always: no row of 30_encoding.md R82 has an
operand field), a number taken as an OPW, and a parameter set. -/

namespace Sys2Proof

/-- Every operation is well formed: there is no operand that could be out of range, and every OPW
value is legal (30_encoding.md R83). -/
def Instr.wellFormed (_ : Instr) : Bool := true

/-- A number is an OPW when it has at most eleven bits (30_encoding.md R80). -/
def opwWellFormed (w : Nat) : Bool := decide (w < 2048)

/-- The legal parameter values of 00_scope.md R6: BUDGET in 1..255, the others any value. -/
def Params.wellFormed (p : Params) : Bool := p.budget != 0#8

end Sys2Proof
end

