-- ==== Sys2Proof/Decode.lean ====
section
/-! DEFINITION. The operation selector word: its fields (30_encoding.md R80), the decoder (R81, R82),
total on all 2048 words (R83), and the encoder from the mask and match columns of the opcode table. -/

namespace Sys2Proof

/-- The code of an FSM state in the 3-bit register `state` (10_state.md R21). -/
def Fsm.code : Fsm → BitVec 3
  | .idle => 0#3
  | .seek => 1#3
  | .skip => 2#3
  | .collect => 3#3
  | .decode => 4#3
  | .emit => 5#3
  | .stopped => 6#3
  | .done => 7#3

/-- The FSM state of a code (10_state.md R21); no code is reserved. -/
def Fsm.ofCode (c : BitVec 3) : Fsm :=
  match c.toNat with
  | 0 => .idle
  | 1 => .seek
  | 2 => .skip
  | 3 => .collect
  | 4 => .decode
  | 5 => .emit
  | 6 => .stopped
  | _ => .done

/-- The fields of an OPW, in the order of the table of 30_encoding.md R80. -/
structure OpwFields where
  rst : Bool
  st : Fsm
  v : Bool
  m : Bool
  tmo : Bool
  ex : Bool
  rdy : Bool
  go : Bool
  sp : Bool
deriving DecidableEq, Repr

/-- Read the fields of an OPW (30_encoding.md R80). -/
def opwFields (w : Opw) : OpwFields :=
  { rst := w.getLsbD 10
    st := Fsm.ofCode (w.extractLsb' 7 3)
    v := w.getLsbD 6
    m := w.getLsbD 5
    tmo := w.getLsbD 4
    ex := w.getLsbD 3
    rdy := w.getLsbD 2
    go := w.getLsbD 1
    sp := w.getLsbD 0 }

/-- Put the fields of an OPW together (30_encoding.md R80). -/
def opwOfFields (f : OpwFields) : Opw :=
  (BitVec.ofBool f.rst ++ f.st.code ++ BitVec.ofBool f.v ++ BitVec.ofBool f.m ++ BitVec.ofBool f.tmo
    ++ BitVec.ofBool f.ex ++ BitVec.ofBool f.rdy ++ BitVec.ofBool f.go ++ BitVec.ofBool f.sp).cast rfl

/-- The read outcome, in priority order byte, exhaustion, timeout (30_encoding.md R81). -/
def readOutcome (v m ex tmo : Bool) : ReadOutcome :=
  if v then (if m then .mark else .other)
  else if ex then .exhausted
  else if tmo then .timeout
  else .none

/-- The operation map of 30_encoding.md R82, by fields. -/
def decodeFields (f : OpwFields) : Instr :=
  if f.rst then .reset else
  match f.st with
  | .idle => if f.sp then .idleStop else if f.go then .idleStart else .idleWait
  | .seek =>
    match readOutcome f.v f.m f.ex f.tmo with
    | .mark => .seekMark
    | .other => .seekOther
    | .exhausted => .seekExhausted
    | .timeout => .seekTimeout
    | .none => .seekNone
  | .skip =>
    match readOutcome f.v f.m f.ex f.tmo with
    | .mark => .skipMark
    | .other => .skipOther
    | .exhausted => .skipExhausted
    | .timeout => .skipTimeout
    | .none => .skipNone
  | .collect =>
    match readOutcome f.v f.m f.ex f.tmo with
    | .mark => .collectByte
    | .other => .collectByte
    | .exhausted => .collectExhausted
    | .timeout => .collectTimeout
    | .none => .collectNone
  | .decode => .decodeFrame
  | .emit => if f.rdy then .emitRelease else .emitHold
  | .stopped => .stoppedHold
  | .done => .doneHold

/-- The operation an OPW selects (30_encoding.md R82). Total: no value is illegal (R83). -/
def decode (w : Opw) : Instr := decodeFields (opwFields w)

/-- Decode a number: an OPW decodes, a wider number is refused by name. -/
def decodeWord (w : Nat) : Except DecodeRefusal Instr :=
  if opwWellFormed w then .ok (decode (BitVec.ofNat 11 w)) else .error .widerThanOpw

/-- The operation the decoder reads from the low `nbits` bits of `w`, bit 0 the least significant
(the numbering of spec/opcode_table.json is that of 30_encoding.md R80). -/
def decodeTableWord (nbits w : Nat) : Option Instr := (decodeWord (w % 2 ^ nbits)).toOption

/-- A row's mask (the bits it looks at) and match (their values), as the opcode table and
95_test_vectors.md section 3.7 give them. -/
structure OpRow where
  mask : Opw
  value : Opw
deriving DecidableEq, Repr

/-- The mask and match of every row. -/
def opRow : Instr → OpRow
  | .reset => ⟨0x400#11, 0x400#11⟩
  | .idleWait => ⟨0x783#11, 0x000#11⟩
  | .idleStart => ⟨0x783#11, 0x002#11⟩
  | .idleStop => ⟨0x781#11, 0x001#11⟩
  | .seekMark => ⟨0x7E0#11, 0x0E0#11⟩
  | .seekOther => ⟨0x7E0#11, 0x0C0#11⟩
  | .seekExhausted => ⟨0x7C8#11, 0x088#11⟩
  | .seekTimeout => ⟨0x7D8#11, 0x090#11⟩
  | .seekNone => ⟨0x7D8#11, 0x080#11⟩
  | .skipMark => ⟨0x7E0#11, 0x160#11⟩
  | .skipOther => ⟨0x7E0#11, 0x140#11⟩
  | .skipExhausted => ⟨0x7C8#11, 0x108#11⟩
  | .skipTimeout => ⟨0x7D8#11, 0x110#11⟩
  | .skipNone => ⟨0x7D8#11, 0x100#11⟩
  | .collectByte => ⟨0x7C0#11, 0x1C0#11⟩
  | .collectExhausted => ⟨0x7C8#11, 0x188#11⟩
  | .collectTimeout => ⟨0x7D8#11, 0x190#11⟩
  | .collectNone => ⟨0x7D8#11, 0x180#11⟩
  | .decodeFrame => ⟨0x780#11, 0x200#11⟩
  | .emitHold => ⟨0x784#11, 0x280#11⟩
  | .emitRelease => ⟨0x784#11, 0x284#11⟩
  | .stoppedHold => ⟨0x780#11, 0x300#11⟩
  | .doneHold => ⟨0x780#11, 0x380#11⟩

/-- Whether a word lies in an operation's row. -/
def rowMatches (i : Instr) (w : Opw) : Bool := w &&& (opRow i).mask == (opRow i).value

/-- The word of an operation whose ignored bits are the bits of `x`. -/
def encodeWith (i : Instr) (x : Opw) : Opw := (opRow i).value ||| (x &&& ~~~ (opRow i).mask)

/-- The word of an operation with every ignored bit 0. -/
def encode (i : Instr) : Opw := encodeWith i 0#11

end Sys2Proof
end

