-- ==== Sys2Proof/Machine/State.lean ====
section
/-! DEFINITION. The machine's state: the registers of 10_state.md R21 to R26, the parameters, and the
port values still to come; the reasons a step or the consumer can stop; the state after reset. -/

namespace Sys2Proof.Machine

/-- The result registers (10_state.md R26): the most recent result, one whole record. A payload
register a kind does not list is 0 (30_encoding.md R86), hence the defaults. -/
structure Result where
  /-- `res_kind`, a code of 30_encoding.md R84. -/
  kind : BitVec 3 := 0#3
  /-- `res_digits`, the most significant digit in bits 63:56. -/
  digits : BitVec 64 := 0#64
  /-- `res_dp`, the decimal point position. -/
  dp : BitVec 2 := 0#2
  /-- `res_neg`, 1 when polarity is negative. -/
  neg : Bool := false
  /-- `res_disp`, the display id. -/
  disp : BitVec 3 := 0#3
  /-- `res_ann_idx`, the ROM index of the annunciator. -/
  annIdx : BitVec 4 := 0#4
  /-- `res_ann_code`, the annunciator code in reading order. -/
  annCode : Code16 := 0#16
  /-- `res_d14`, the reserved byte. -/
  d14 : Byte := 0#8
  /-- `res_err_field`, a code of 30_encoding.md R85. -/
  errField : BitVec 3 := 0#3
  /-- `res_err_value`, the offending raw value, zero-extended. -/
  errValue : BitVec 16 := 0#16
deriving DecidableEq, Repr

/-- The machine. `fsm` to `res` are exactly the registers of 10_state.md R20; `params` are the
parameters of 00_scope.md R6, constant in every run (log entry 1); `upcoming` and `cycle` are the
model's own (log entries 4 and 5). -/
structure State where
  /-- `state` (10_state.md R21). -/
  fsm : Fsm
  /-- `budget_cnt` (10_state.md R22). -/
  budgetCnt : BitVec 8
  /-- `col_cnt` (10_state.md R23). -/
  colCnt : BitVec 5
  /-- `buf[0..15]`, the frame reversal buffer (10_state.md R24). -/
  buf : Frame
  /-- `stop_req` (10_state.md R25). -/
  stopReq : Bool
  /-- `res_kind` to `res_err_value` (10_state.md R26). -/
  res : Result
  /-- The parameters, the ROM among them (00_scope.md R6, 20_memory.md R51). -/
  params : Params
  /-- The model's own: the input port values of the coming edges, the next one first. -/
  upcoming : List Inputs
  /-- The model's own: the number of the free sample used when `upcoming` is empty. -/
  cycle : Nat
deriving DecidableEq, Repr

/-- Faults. No operation and no step raises one ("no operation can fail in any other way",
60_exceptions.md R240): they are what a CONSUMER finds in a handed-over result that no rule can
produce (`Result.receive` in Machine/Consumer.lean raises all four; safe, since no run from reset
hands such a result over). -/
inductive Fault where
  /-- Result kind code 7 (30_encoding.md R87). -/
  | reservedKind
  /-- Error field code 6 or 7 (30_encoding.md R87). -/
  | reservedErrorField
  /-- Kind NONE handed over (44_frame_decoder_fsm.md R226). -/
  | noResult
  /-- FRAME_TERMINATOR_MISMATCH with error field START_WORD (93_implementation_defined.md I21). -/
  | startWordReported
deriving DecidableEq, Repr

/-- Refusals. -/
inductive Refusal where
  /-- An operation without a meaning. No arm of `exec` raises it: every operation is modelled. -/
  | notModelled (mnemonic : String)
  /-- BUDGET is 0, outside 1..255 (93_implementation_defined.md I12 refuses it). `step` raises it.
  Safe: such a parameter set is no machine of the spec (log entry 8). -/
  | illegalBudget
deriving DecidableEq, Repr

/-- What a step, an operation or a meaning answers. -/
abbrev Out := Host.Outcome State Fault Refusal

/-- The reset values of 10_state.md R42 under the parameters `p`, with no port value scripted. -/
def State.resetWith (p : Params) : State :=
  { fsm := .idle
    budgetCnt := 0#8
    colCnt := 0#5
    buf := #v[0#8, 0#8, 0#8, 0#8, 0#8, 0#8, 0#8, 0#8, 0#8, 0#8, 0#8, 0#8, 0#8, 0#8, 0#8, 0#8]
    stopReq := false
    res := {}
    params := p
    upcoming := []
    cycle := 0 }

/-- The machine right after reset, with the default parameters (log entries 2 and 3). -/
def State.reset : State := State.resetWith Params.default

end Sys2Proof.Machine
end

