-- ==== Sys2Proof/Machine/Operands.lean ====
section
/-! DEFINITION. The operands of an operation: the port values sampled at the coming edge
(10_state.md R38), the marker detector (40_frame_synchronizer.md R100), the byte count
(R101, R104), and the operation selector word formed from them (30_encoding.md R80). -/

namespace Sys2Proof.Machine

/-- The port values at the coming edge: the first scripted sample, else a free value. -/
def State.sample (s : State) : Inputs :=
  match s.upcoming with
  | i :: _ => i
  | [] => Config.freeInputs s.cycle

/-- The marker detector, an 8-bit equality with no mask (40_frame_synchronizer.md R100). -/
def State.markerSeen (s : State) : Bool := s.sample.inData == s.params.startMarker

/-- The fields of the operation selector word at the coming edge (30_encoding.md R80). -/
def State.selector (s : State) : OpwFields :=
  { rst := s.sample.rst
    st := s.fsm
    v := s.sample.inValid
    m := s.markerSeen
    tmo := s.sample.inTimeout
    ex := s.sample.inExhausted
    rdy := s.sample.outReady
    go := s.sample.start
    sp := s.sample.stop }

/-- OPW, a pure function of the state and the inputs of the step (30_encoding.md R80). -/
def State.opw (s : State) : Opw := opwOfFields s.selector

/-- `n = budget_cnt + 1` of 40_frame_synchronizer.md R101. It wraps at 8 bits, in no reachable state
(00_scope.md R13, log entry 6). -/
def State.nextCount (s : State) : BitVec 8 := s.budgetCnt + 1#8

/-- The byte now accepted exhausts the budget: `n == BUDGET` (40_frame_synchronizer.md R104). -/
def State.budgetSpent (s : State) : Bool := s.nextCount == s.params.budget

/-- Port values under which the machine in the FSM state of `w` selects the word `w`: each input at
its OPW bit, `in_data` the start marker exactly when bit 5 is 1 (30_encoding.md R80). -/
def inputsOfOpw (p : Params) (w : Opw) : Inputs :=
  { rst := w.getLsbD 10
    start := w.getLsbD 1
    stop := w.getLsbD 0
    inValid := w.getLsbD 6
    inData := if w.getLsbD 5 then p.startMarker else p.startMarker ^^^ 1#8
    inTimeout := w.getLsbD 4
    inExhausted := w.getLsbD 3
    outReady := w.getLsbD 2 }

/-- The state made to select `w` at the coming edge: its FSM state is that of bits 9:7 and the port
values of the coming edge are those of the other bits. -/
def State.presentOpw (s : State) (w : Opw) : State :=
  { s with
    fsm := Fsm.ofCode (w.extractLsb' 7 3)
    upcoming := inputsOfOpw s.params w :: s.upcoming.tail }

end Sys2Proof.Machine
end

