-- ==== Sys2Proof/Machine/Flags.lean ====
section
/-! DEFINITION. The core has no condition codes (10_state.md R29). What it has in their place: the two
handshake outputs, functions of `state` (R41), the stop latch (44_frame_decoder_fsm.md R220), and the
two handshakes that follow (10_state.md R39, R40). -/

namespace Sys2Proof.Machine

/-- `in_ready` (10_state.md R41). -/
def State.inReady (s : State) : Bool := s.fsm == .seek || s.fsm == .skip || s.fsm == .collect

/-- `out_valid` (10_state.md R41). -/
def State.outValid (s : State) : Bool := s.fsm == .emit

/-- `stop_req` after the edge: latched by `stop` in every step with `rst` = 0
(44_frame_decoder_fsm.md R220); in a reset step the value the reset wrote stands. -/
def stopLatch (i : Inputs) (stopReq : Bool) : Bool := if i.rst then stopReq else stopReq || i.stop

/-- The byte accepted at the coming edge, if any (10_state.md R39): it is then consumed. -/
def State.acceptedByte (s : State) : Option Byte :=
  if !s.sample.rst && s.inReady && s.sample.inValid then some s.sample.inData else none

/-- The result handed to the sink at the coming edge, if any (10_state.md R40). -/
def State.handedOver (s : State) : Option Result :=
  if !s.sample.rst && s.outValid && s.sample.outReady then some s.res else none

end Sys2Proof.Machine
end

