-- ==== Sys2Proof/Machine/Ops.lean ====
section
/-! DEFINITION. The named operations on the registers that the meanings share: the buffer write, the
byte count, result capture (in place of taking an exception) and, beside it, hand-over (in place of
the return from one), the start of an iteration, reset, and what a clock edge does besides the
operation. -/

namespace Sys2Proof.Machine

/-- `shift_in(b)` on a buffer: every byte moves up one place, `b` enters at 0, byte 15 is dropped
(41_frame_reversal_buffer.md R131). -/
def shiftIn (b : Byte) (v : Frame) : Frame :=
  #v[b, v[0], v[1], v[2], v[3], v[4], v[5], v[6], v[7], v[8], v[9], v[10], v[11], v[12], v[13], v[14]]

/-- `shift_in(b)`, the only write of the frame buffer (41_frame_reversal_buffer.md R131). -/
def State.shiftIn (s : State) (b : Byte) : State := { s with buf := Machine.shiftIn b s.buf }

/-- `budget_cnt <- n`, for every byte accepted in SEEK or SKIP (40_frame_synchronizer.md R101). -/
def State.countByte (s : State) : State := { s with budgetCnt := s.nextCount }

/-- `finish(kind, payload)` (44_frame_decoder_fsm.md R205, 60_exceptions.md R250): the ten result
registers are written, the state moves to EMIT, nothing else changes. -/
def State.finish (s : State) (r : Result) : State := { s with res := r, fsm := .emit }

/-- `begin_iteration` (44_frame_decoder_fsm.md R212). -/
def State.beginIteration (s : State) : State :=
  { s with budgetCnt := 0#8, colCnt := 0#5, fsm := .seek }

/-- Kind code 2, SYNC_TIMEOUT, with its all-zero payload (30_encoding.md R84, R86). -/
def Result.syncTimeout : Result := { kind := 2#3 }

/-- Kind code 6, SOURCE_EXHAUSTED, with its all-zero payload (30_encoding.md R84, R86). -/
def Result.sourceExhausted : Result := { kind := 6#3 }

/-- Hand-over of the held result (44_frame_decoder_fsm.md R211, 60_exceptions.md R251): exhaustion
ends the loop in DONE, else a stop seen so far or in this very cycle ends it in STOPPED, else the next
iteration begins. -/
def State.release (s : State) : State :=
  if s.res.kind == 6#3 then { s with fsm := .done }
  else if s.stopReq || s.sample.stop then { s with fsm := .stopped }
  else s.beginIteration

/-- The register writes of a reset step (70_reset_and_hazards.md R270). -/
def State.resetRegisters (s : State) : State :=
  { s with
    fsm := .idle
    budgetCnt := 0#8
    colCnt := 0#5
    buf := #v[0#8, 0#8, 0#8, 0#8, 0#8, 0#8, 0#8, 0#8, 0#8, 0#8, 0#8, 0#8, 0#8, 0#8, 0#8, 0#8]
    stopReq := false
    res := {} }

/-- A byte that only counts: `budget_cnt <- n`, and SYNC_TIMEOUT when it exhausts the budget
(40_frame_synchronizer.md R101, R104). -/
def State.spendByte (s : State) : State :=
  if s.budgetSpent then s.countByte.finish Result.syncTimeout else s.countByte

/-- What the edge does beside the operation that led from `s` to `t`: the stop latch acts on the
inputs of the step (44_frame_decoder_fsm.md R220), and the port values of this edge are past. -/
def State.clockEdge (s t : State) : State :=
  { t with
    stopReq := stopLatch s.sample t.stopReq
    upcoming := s.upcoming.tail
    cycle := s.cycle + 1 }

/-- Run an operation's answer through the edge. -/
def State.atEdge (s : State) : Out → Out
  | .next t => .next (s.clockEdge t)
  | .fault r => .fault r
  | .refused r => .refused r

end Sys2Proof.Machine
end

