-- ==== Sys2Proof/Machine/Parser.lean ====
section
/-! DEFINITION. The field_parser (42_field_parser.md): PARSE, the packing of the multi-byte fields, and
the reference encoder ENC with the wire-to-logical order. -/

namespace Sys2Proof.Machine

/-- The record ParsedFields (42_field_parser.md R159). -/
structure ParsedFields where
  endWord : Byte
  /-- `digit[0]` is the most significant digit. -/
  digits : Vector Byte 8
  dpRaw : Byte
  polRaw : Byte
  /-- The annunciator code's first character in reading order. -/
  code0 : Byte
  /-- The annunciator code's second character. -/
  code1 : Byte
  dispRaw : Byte
  d14 : Byte
  startWord : Byte
deriving DecidableEq, Repr

/-- `PARSE(L)` (42_field_parser.md R150 to R159): a pure function of the sixteen logical bytes. -/
def parse (l : Frame) : ParsedFields :=
  { endWord := l[0]
    digits := #v[l[8], l[7], l[6], l[5], l[4], l[3], l[2], l[1]]
    dpRaw := l[9]
    polRaw := l[10]
    code0 := l[12]
    code1 := l[11]
    dispRaw := l[13]
    d14 := l[14]
    startWord := l[15] }

/-- `digits8`, the most significant digit in bits 63:56 (42_field_parser.md R152). -/
def ParsedFields.digits8 (f : ParsedFields) : BitVec 64 :=
  f.digits[0] ++ f.digits[1] ++ f.digits[2] ++ f.digits[3]
    ++ f.digits[4] ++ f.digits[5] ++ f.digits[6] ++ f.digits[7]

/-- `dp2 = (dp_raw - 0x30)[1:0]` (42_field_parser.md R153). -/
def ParsedFields.dp2 (f : ParsedFields) : BitVec 2 := (f.dpRaw - 0x30#8).setWidth 2

/-- `neg1 = (pol_raw != 0x30)` (42_field_parser.md R154). -/
def ParsedFields.neg1 (f : ParsedFields) : Bool := f.polRaw != 0x30#8

/-- `code16`, the first character in bits 15:8 (42_field_parser.md R155). -/
def ParsedFields.code16 (f : ParsedFields) : Code16 := f.code0 ++ f.code1

/-- `disp3 = (disp_raw - 0x30)[2:0]` (42_field_parser.md R156). -/
def ParsedFields.disp3 (f : ParsedFields) : BitVec 3 := (f.dispRaw - 0x30#8).setWidth 3

/-- `ENC(f)`, the sixteen wire bytes of a record (42_field_parser.md R165). Consumer side. -/
def ParsedFields.wire (f : ParsedFields) : Frame :=
  #v[f.startWord, f.d14, f.dispRaw, f.code0, f.code1, f.polRaw, f.dpRaw,
     f.digits[0], f.digits[1], f.digits[2], f.digits[3],
     f.digits[4], f.digits[5], f.digits[6], f.digits[7], f.endWord]

/-- `L[k] = W[15 - k]` (00_scope.md R9, 20_memory.md R53). Its own inverse. -/
def reverseFrame (w : Frame) : Frame :=
  #v[w[15], w[14], w[13], w[12], w[11], w[10], w[9], w[8], w[7], w[6], w[5], w[4], w[3], w[2], w[1], w[0]]

end Sys2Proof.Machine
end

