-- ==== Sys2Proof/Machine/Validator.lean ====
section
/-! DEFINITION. The lookup_validator (43_lookup_validator.md): LOOKUP in the annunciator ROM, the five
checks, and DEC, which reports the first failure in the source's step order. -/

namespace Sys2Proof.Machine

/-- `match[i]` for the sixteen entries (43_lookup_validator.md R181). -/
def romMatches (rom : Vector Code16 16) (c : Code16) : List Bool := rom.toList.map (c == ·)

/-- `hit`, some entry equals the code (43_lookup_validator.md R181). -/
def romHit (rom : Vector Code16 16) (c : Code16) : Bool := (romMatches rom c).any id

/-- `idx`, the lowest matching entry, 0 when there is none (43_lookup_validator.md R182). -/
def romIndex (rom : Vector Code16 16) (c : Code16) : BitVec 4 :=
  if romHit rom c then BitVec.ofNat 4 ((romMatches rom c).findIdx id) else 0#4

/-- `end_ok` (43_lookup_validator.md R183). -/
def endOk (p : Params) (f : ParsedFields) : Bool := f.endWord == p.endMarker

/-- `start_ok` (43_lookup_validator.md R184). -/
def startOk (p : Params) (f : ParsedFields) : Bool := f.startWord == p.startMarker

/-- `dp_ok`: the characters '0' to '3' (43_lookup_validator.md R185). -/
def dpOk (f : ParsedFields) : Bool :=
  f.dpRaw == 0x30#8 || f.dpRaw == 0x31#8 || f.dpRaw == 0x32#8 || f.dpRaw == 0x33#8

/-- `ann_ok` (43_lookup_validator.md R186). -/
def annOk (p : Params) (f : ParsedFields) : Bool := romHit p.annCode f.code16

/-- `disp_ok`: the characters '1' to '4' (43_lookup_validator.md R187). -/
def dispOk (f : ParsedFields) : Bool :=
  f.dispRaw == 0x31#8 || f.dispRaw == 0x32#8 || f.dispRaw == 0x33#8 || f.dispRaw == 0x34#8

/-- FRAME_TERMINATOR_MISMATCH, kind 3 (30_encoding.md R84, R86). -/
def Result.terminatorMismatch (field : BitVec 3) (raw : Byte) : Result :=
  { kind := 3#3, errField := field, errValue := raw.setWidth 16 }

/-- FIELD_RANGE_ERROR, kind 4 (30_encoding.md R84, R86). -/
def Result.fieldRange (field : BitVec 3) (raw : Byte) : Result :=
  { kind := 4#3, errField := field, errValue := raw.setWidth 16 }

/-- UNKNOWN_ANNUNCIATOR_CODE, kind 5, error field ANNUNCIATOR (30_encoding.md R84 to R86). -/
def Result.unknownCode (c : Code16) : Result := { kind := 5#3, errField := 5#3, errValue := c }

/-- READING, kind 1, with its payload (30_encoding.md R86). -/
def Result.reading (p : Params) (f : ParsedFields) : Result :=
  { kind := 1#3
    digits := f.digits8
    dp := f.dp2
    neg := f.neg1
    disp := f.disp3
    annIdx := romIndex p.annCode f.code16
    annCode := f.code16
    d14 := f.d14 }

/-- `DEC(L)` (43_lookup_validator.md R188): total, and the first failing check is the one reported. -/
def dec (p : Params) (l : Frame) : Result :=
  if !endOk p (parse l) then Result.terminatorMismatch 1#3 (parse l).endWord
  else if !startOk p (parse l) then Result.terminatorMismatch 2#3 (parse l).startWord
  else if !dpOk (parse l) then Result.fieldRange 3#3 (parse l).dpRaw
  else if !annOk p (parse l) then Result.unknownCode (parse l).code16
  else if !dispOk (parse l) then Result.fieldRange 4#3 (parse l).dispRaw
  else Result.reading p (parse l)

end Sys2Proof.Machine
end

