-- ==== Sys2Proof/Machine/DecoderFsm.lean ====
section
/-! DEFINITION. The frame_decoder_fsm: RESET and the operations of IDLE, DECODE, EMIT, STOPPED and DONE
(70_reset_and_hazards.md R270, 44_frame_decoder_fsm.md). The stop latch (R220) acts beside each one, in
`State.clockEdge`. -/

namespace Sys2Proof.Machine

/-- RESET (70_reset_and_hazards.md R270). -/
def execReset (s : State) : Out := .next s.resetRegisters

/-- IDLE.WAIT (44_frame_decoder_fsm.md R202): nothing changes. -/
def execIdleWait (s : State) : Out := .next s

/-- IDLE.START (44_frame_decoder_fsm.md R201). -/
def execIdleStart (s : State) : Out := .next s.beginIteration

/-- IDLE.STOP (44_frame_decoder_fsm.md R203). -/
def execIdleStop (s : State) : Out := .next { s with fsm := .stopped }

/-- DECODE (44_frame_decoder_fsm.md R204): the buffer, read as L[0..15], is decoded in one step. -/
def execDecode (s : State) : Out := .next (s.finish (dec s.params s.buf))

/-- EMIT.HOLD (44_frame_decoder_fsm.md R210): nothing changes. -/
def execEmitHold (s : State) : Out := .next s

/-- EMIT.RELEASE (44_frame_decoder_fsm.md R211). -/
def execEmitRelease (s : State) : Out := .next s.release

/-- STOPPED.HOLD (44_frame_decoder_fsm.md R213): only reset leaves STOPPED. -/
def execStoppedHold (s : State) : Out := .next s

/-- DONE.HOLD (44_frame_decoder_fsm.md R214): only reset leaves DONE. -/
def execDoneHold (s : State) : Out := .next s

end Sys2Proof.Machine
end

