-- ==== Sys2Proof/Machine/ReversalBuffer.lean ====
section
/-! DEFINITION. The frame_reversal_buffer: the operations of phase 3, COLLECT
(41_frame_reversal_buffer.md). -/

namespace Sys2Proof.Machine

/-- COLLECT.BYTE (41_frame_reversal_buffer.md R134): any byte is kept; the sixteenth leads to DECODE. -/
def execCollectByte (s : State) : Out :=
  .next { s.shiftIn s.sample.inData with
    colCnt := s.colCnt + 1#5
    fsm := if s.colCnt + 1#5 == 16#5 then .decode else s.fsm }

/-- COLLECT.EXHAUSTED (41_frame_reversal_buffer.md R135): the partial frame is dropped. -/
def execCollectExhausted (s : State) : Out := .next (s.finish Result.sourceExhausted)

/-- COLLECT.TIMEOUT (41_frame_reversal_buffer.md R137): the partial frame is dropped. -/
def execCollectTimeout (s : State) : Out := .next (s.finish Result.syncTimeout)

/-- COLLECT.NONE (41_frame_reversal_buffer.md R138): nothing changes. -/
def execCollectNone (s : State) : Out := .next s

end Sys2Proof.Machine
end

