-- ==== Sys2Proof/Machine/Synchronizer.lean ====
section
/-! DEFINITION. The frame_synchronizer: the operations of phases 1 and 2, SEEK and SKIP
(40_frame_synchronizer.md). `accept` writes no register of the core; the accepted byte is
`State.acceptedByte`. -/

namespace Sys2Proof.Machine

/-- SEEK.MARK (40_frame_synchronizer.md R102): the first start marker is kept as W[0], unless it
exhausts the budget. -/
def execSeekMark (s : State) : Out :=
  .next (if s.budgetSpent then s.countByte.finish Result.syncTimeout
    else { s.countByte.shiftIn s.params.startMarker with colCnt := 1#5, fsm := .skip })

/-- SEEK.OTHER (40_frame_synchronizer.md R103): the byte is discarded and counted. -/
def execSeekOther (s : State) : Out := .next s.spendByte

/-- SEEK.EXHAUSTED (40_frame_synchronizer.md R105). -/
def execSeekExhausted (s : State) : Out := .next (s.finish Result.sourceExhausted)

/-- SEEK.TIMEOUT (40_frame_synchronizer.md R106). -/
def execSeekTimeout (s : State) : Out := .next (s.finish Result.syncTimeout)

/-- SEEK.NONE (40_frame_synchronizer.md R107): nothing changes. -/
def execSeekNone (s : State) : Out := .next s

/-- SKIP.MARK (40_frame_synchronizer.md R108): a duplicate marker is counted, not kept. -/
def execSkipMark (s : State) : Out := .next s.spendByte

/-- SKIP.OTHER (40_frame_synchronizer.md R109): the first content byte, kept as W[1]; no exhaustion
check. -/
def execSkipOther (s : State) : Out :=
  .next { s.countByte.shiftIn s.sample.inData with colCnt := 2#5, fsm := .collect }

/-- SKIP.EXHAUSTED (40_frame_synchronizer.md R110). -/
def execSkipExhausted (s : State) : Out := .next (s.finish Result.sourceExhausted)

/-- SKIP.TIMEOUT (40_frame_synchronizer.md R111). -/
def execSkipTimeout (s : State) : Out := .next (s.finish Result.syncTimeout)

/-- SKIP.NONE (40_frame_synchronizer.md R112): nothing changes. -/
def execSkipNone (s : State) : Out := .next s

end Sys2Proof.Machine
end

