-- ==== Sys2Proof/Machine/Dispatch.lean ====
section
/-! DEFINITION. The dispatch: one arm per operation, each one call of its meaning. -/

namespace Sys2Proof.Machine

def exec (i : Instr) (s : State) : Host.Outcome State Fault Refusal :=
  match i with
  | .reset => Sys2Proof.Machine.execReset s
  | .idleWait => Sys2Proof.Machine.execIdleWait s
  | .idleStart => Sys2Proof.Machine.execIdleStart s
  | .idleStop => Sys2Proof.Machine.execIdleStop s
  | .seekMark => Sys2Proof.Machine.execSeekMark s
  | .seekOther => Sys2Proof.Machine.execSeekOther s
  | .seekExhausted => Sys2Proof.Machine.execSeekExhausted s
  | .seekTimeout => Sys2Proof.Machine.execSeekTimeout s
  | .seekNone => Sys2Proof.Machine.execSeekNone s
  | .skipMark => Sys2Proof.Machine.execSkipMark s
  | .skipOther => Sys2Proof.Machine.execSkipOther s
  | .skipExhausted => Sys2Proof.Machine.execSkipExhausted s
  | .skipTimeout => Sys2Proof.Machine.execSkipTimeout s
  | .skipNone => Sys2Proof.Machine.execSkipNone s
  | .collectByte => Sys2Proof.Machine.execCollectByte s
  | .collectExhausted => Sys2Proof.Machine.execCollectExhausted s
  | .collectTimeout => Sys2Proof.Machine.execCollectTimeout s
  | .collectNone => Sys2Proof.Machine.execCollectNone s
  | .decodeFrame => Sys2Proof.Machine.execDecode s
  | .emitHold => Sys2Proof.Machine.execEmitHold s
  | .emitRelease => Sys2Proof.Machine.execEmitRelease s
  | .stoppedHold => Sys2Proof.Machine.execStoppedHold s
  | .doneHold => Sys2Proof.Machine.execDoneHold s

end Sys2Proof.Machine
end

