-- ==== Sys2Proof/Machine/Step.lean ====
section
/-! DEFINITION. One clock step (44_frame_decoder_fsm.md R200): the operation that OPW selects, then what
the edge does beside it. -/

namespace Sys2Proof.Machine

/-- One rising edge of `clk` (10_state.md R32, 44_frame_decoder_fsm.md R200). A machine whose BUDGET is
outside 1..255 is refused (93_implementation_defined.md I12). -/
def step (s : State) : Host.Outcome State Fault Refusal :=
  if s.params.wellFormed then s.atEdge (exec (decode s.opw) s) else .refused .illegalBudget

/-- The state whose very next step selects and runs the word in the low `nbits` bits of `w`: OPW is no
stored word but the FSM state and the port values of the edge (30_encoding.md R80), so these are set. -/
def State.withFetchWord (s : State) (nbits w : Nat) : State :=
  s.presentOpw (BitVec.ofNat 11 (w % 2 ^ nbits))

end Sys2Proof.Machine
end

