-- ==== Sys2Proof/Machine/Consumer.lean ====
section
/-! DEFINITION. The consumer's side of the sink, not hardware: what a consumer must treat as a fault
(30_encoding.md R87), the reference formatter FMT (42_field_parser.md R166) and the accessors of a
Reading (R168). -/

namespace Sys2Proof.Machine

/-- A consumer takes a handed-over result, or finds that no rule can have written it
(30_encoding.md R87, 44_frame_decoder_fsm.md R226, 93_implementation_defined.md I6, I21). -/
def Result.receive (r : Result) : Except Fault Result :=
  if r.kind == 7#3 then .error .reservedKind
  else if r.errField == 6#3 || r.errField == 7#3 then .error .reservedErrorField
  else if r.kind == 0#3 then .error .noResult
  else if r.kind == 3#3 && r.errField == 2#3 then .error .startWordReported
  else .ok r

/-- The eight characters of `res_digits`, most significant first (42_field_parser.md R166). -/
def Result.digitChars (r : Result) : List Byte :=
  [r.digits.extractLsb' 56 8, r.digits.extractLsb' 48 8, r.digits.extractLsb' 40 8,
   r.digits.extractLsb' 32 8, r.digits.extractLsb' 24 8, r.digits.extractLsb' 16 8,
   r.digits.extractLsb' 8 8, r.digits.extractLsb' 0 8]

/-- FMT's body: the separator '.' (0x2E) stands `res_dp` digits from the right, and is absent for 0
(42_field_parser.md R166). -/
def Result.fmtBody (r : Result) : List Byte :=
  if r.dp == 0#2 then r.digitChars
  else r.digitChars.take (8 - r.dp.toNat) ++ 0x2E#8 :: r.digitChars.drop (8 - r.dp.toNat)

/-- FMT, as ASCII bytes: the sign '-' (0x2D) stands before every negative value
(42_field_parser.md R166). -/
def Result.fmt (r : Result) : List Byte := if r.neg then 0x2D#8 :: r.fmtBody else r.fmtBody

/-- A Reading as its consumer sees it (42_field_parser.md R168). -/
structure Reading where
  /-- "formatted display string", FMT. -/
  display : List Byte
  /-- "raw 8-digit string". -/
  rawDigits : BitVec 64
  /-- "decimal-point position". -/
  decimalPoint : BitVec 2
  /-- "polarity", true for negative. -/
  negative : Bool
  /-- "resolved annunciator unit string". -/
  unit : String
  /-- "display channel id". -/
  channel : BitVec 3
deriving DecidableEq, Repr

/-- The accessors of a READING; the unit strings ANN_UNIT are the consumer's (42_field_parser.md R168,
00_scope.md R6). -/
def Result.toReading (annUnit : Vector String 16) (r : Result) : Reading :=
  { display := r.fmt
    rawDigits := r.digits
    decimalPoint := r.dp
    negative := r.neg
    unit := annUnit[r.annIdx.toFin]
    channel := r.disp }

end Sys2Proof.Machine
end

