-- ==== Sys2Proof/Machine/Ports.lean ====
section
/-! DEFINITION. The output ports (10_state.md R40, R41): every one a function of the registers. -/

namespace Sys2Proof.Machine

/-- The fourteen output ports (10_state.md R40); the ten payload ports are one record. -/
structure Outputs where
  /-- `in_ready`. -/
  inReady : Bool
  /-- `out_valid`. -/
  outValid : Bool
  /-- `out_kind`, `out_digits`, `out_dp`, `out_neg`, `out_disp`, `out_ann_idx`, `out_ann_code`,
  `out_d14`, `out_err_field`, `out_err_value`: the result registers at all times. -/
  out : Result
  /-- `status`, the code of `state`. -/
  status : BitVec 3
  /-- `stop_pending`. -/
  stopPending : Bool
deriving DecidableEq, Repr

/-- The output ports of a state. No output depends on an input (10_state.md R41). -/
def State.outputs (s : State) : Outputs :=
  { inReady := s.inReady
    outValid := s.outValid
    out := s.res
    status := s.fsm.code
    stopPending := s.stopReq }

end Sys2Proof.Machine
end

