-- ==== Sys2Proof/Machine/Stimulus.lean ====
section
/-! DEFINITION. The spec's test environment (30_encoding.md R90 to R92): stimulus programs, the standard
source, the pseudo-directives, and the bench that clocks the core with them. It stands beside the
machine and is no part of it. -/

namespace Sys2Proof.Machine

/-- What the source drives after its last byte (30_encoding.md R90). -/
inductive Tail where
  | quiet | timeout | exhausted
deriving DecidableEq, Repr

/-- A line of a stimulus program (30_encoding.md R90, R92). -/
inductive Directive where
  /-- PARAM; the defaults are `Params.default`. -/
  | param (p : Params)
  /-- RESET: cycle 0 has rst = 1. -/
  | reset
  /-- START @c. -/
  | start (c : Nat)
  /-- STOP @c. -/
  | stop (c : Nat)
  /-- SOURCE bytes. -/
  | source (bytes : List Byte)
  /-- FRAME: the sixteen bytes of ENC; the digits most significant first. -/
  | frame (d14 disp ann0 ann1 pol dp : Byte) (digits : Vector Byte 8)
  /-- REPEAT n byte. -/
  | repeatByte (n : Nat) (b : Byte)
  /-- DUP n: n copies of START_MARKER. -/
  | dup (n : Nat)
  /-- TAIL. -/
  | tail (t : Tail)
  /-- SINK READY. -/
  | sinkReady
  /-- SINK STALL c1 c2 ... -/
  | sinkStall (cs : List Nat)
  /-- RUN n. -/
  | run (n : Nat)
deriving DecidableEq, Repr

/-- What a stimulus program sets up. -/
structure Stimulus where
  params : Params
  resetFirst : Bool
  startAt : List Nat
  stopAt : List Nat
  bytes : List Byte
  tail : Tail
  stalls : List Nat
  cycles : Nat
deriving DecidableEq, Repr

/-- Before any line: the default parameters of 30_encoding.md R90. DESIGN CHOICE for the rest, since R90
gives defaults for PARAM only (log entry 10): `rst` and `start` 0 throughout, an empty byte list, TAIL
QUIET, SINK READY (`out_ready` = 1 in every cycle) and no cycles to run. `stop` is 0 throughout, as in the
programs of 95_test_vectors.md that have no STOP line. -/
def Stimulus.empty : Stimulus :=
  { params := Params.default, resetFirst := false, startAt := [], stopAt := [], bytes := [],
    tail := .quiet, stalls := [], cycles := 0 }

/-- The bytes a line adds to the source's list (30_encoding.md R90, R92). -/
def Directive.bytes (p : Params) : Directive → List Byte
  | .source bs => bs
  | .frame d14 disp ann0 ann1 pol dp digits =>
    (ParsedFields.wire
      { endWord := p.endMarker, digits := digits, dpRaw := dp, polRaw := pol, code0 := ann0,
        code1 := ann1, dispRaw := disp, d14 := d14, startWord := p.startMarker }).toList
  | .repeatByte n b => List.replicate n b
  | .dup n => List.replicate n p.startMarker
  | .param _ => []
  | .reset => []
  | .start _ => []
  | .stop _ => []
  | .tail _ => []
  | .sinkReady => []
  | .sinkStall _ => []
  | .run _ => []

/-- One line applied to what stands; SOURCE and pseudo lines concatenate (30_encoding.md R92). DESIGN
CHOICE where the spec gives no order of lines (log entry 10): FRAME and DUP expand with the markers set by the
lines above them, a later PARAM, TAIL, SINK or RUN line replaces an earlier one, and START and STOP lines
add up. -/
def Stimulus.line (st : Stimulus) (d : Directive) : Stimulus :=
  match d with
  | .param p => { st with params := p }
  | .reset => { st with resetFirst := true }
  | .start c => { st with startAt := st.startAt ++ [c] }
  | .stop c => { st with stopAt := st.stopAt ++ [c] }
  | .source _ => { st with bytes := st.bytes ++ d.bytes st.params }
  | .frame _ _ _ _ _ _ _ => { st with bytes := st.bytes ++ d.bytes st.params }
  | .repeatByte _ _ => { st with bytes := st.bytes ++ d.bytes st.params }
  | .dup _ => { st with bytes := st.bytes ++ d.bytes st.params }
  | .tail t => { st with tail := t }
  | .sinkReady => { st with stalls := [] }
  | .sinkStall cs => { st with stalls := cs }
  | .run n => { st with cycles := n }

/-- A stimulus program read line by line (30_encoding.md R90). -/
def Stimulus.ofLines (ls : List Directive) : Stimulus := ls.foldl Stimulus.line Stimulus.empty

/-- The port values of cycle `c` with the source's pointer at `p` (30_encoding.md R90, R91). -/
def Stimulus.inputsAt (st : Stimulus) (c p : Nat) : Inputs :=
  { rst := st.resetFirst && c == 0
    start := st.startAt.contains c
    stop := st.stopAt.contains c
    inValid := decide (p < st.bytes.length)
    inData := st.bytes.getD p 0#8
    inTimeout := decide (st.bytes.length ≤ p) && st.tail == .timeout
    inExhausted := decide (st.bytes.length ≤ p) && st.tail == .exhausted
    outReady := !st.stalls.contains c }

/-- The core on the bench: the source's pointer, the cycle number, and what the source has given and
the sink has taken so far. -/
structure Bench where
  core : State
  pointer : Nat
  time : Nat
  accepted : List Byte
  results : List Result
deriving DecidableEq, Repr

/-- The core with the stimulus's port values for the coming edge. -/
def Bench.driven (st : Stimulus) (b : Bench) : State :=
  { b.core with upcoming := [st.inputsAt b.time b.pointer] }

/-- One cycle: the core takes its step, and the pointer advances by one exactly when a byte is accepted
(30_encoding.md R91, 10_state.md R39). -/
def Bench.step (st : Stimulus) (b : Bench) : Host.Outcome Bench Fault Refusal :=
  match Machine.step (b.driven st) with
  | .next t => .next
      { core := t
        pointer := b.pointer + (b.driven st).acceptedByte.toList.length
        time := b.time + 1
        accepted := b.accepted ++ (b.driven st).acceptedByte.toList
        results := b.results ++ (b.driven st).handedOver.toList }
  | .fault r => .fault r
  | .refused r => .refused r

/-- `n` cycles. -/
def Bench.runFor (st : Stimulus) : Nat → Bench → Host.Outcome Bench Fault Refusal
  | 0, b => .next b
  | n + 1, b =>
    match b.step st with
    | .next b' => Bench.runFor st n b'
    | .fault r => .fault r
    | .refused r => .refused r

/-- The bench before cycle 0, the core in the reset state under the program's parameters. -/
def Bench.begin (st : Stimulus) : Bench :=
  { core := State.resetWith st.params, pointer := 0, time := 0, accepted := [], results := [] }

/-- A stimulus program run for its RUN cycles (30_encoding.md R90). -/
def Stimulus.run (st : Stimulus) : Host.Outcome Bench Fault Refusal :=
  Bench.runFor st st.cycles (Bench.begin st)

end Sys2Proof.Machine
end

