-- ==== Sys2Proof/Safety.lean ====
section
/-! DEFINITION. The terms the claims use: the reachable-state rows of 10_state.md R43, what the result
registers may hold (30_encoding.md R84 to R87, 60_exceptions.md R240), how a step runs an operation,
runs and what is transferred in them, and the environment's part in a claim. -/

namespace Sys2Proof

/-- Port values that offer a byte, outside reset; every other port has any value. -/
def Inputs.offersByte (i : Inputs) : Prop := i.rst = false ∧ i.inValid = true

/-- Port values that give a read outcome, outside reset (70_reset_and_hazards.md R280 item 2). -/
def Inputs.givesOutcome (i : Inputs) : Prop :=
  i.rst = false ∧ (i.inValid = true ∨ i.inTimeout = true ∨ i.inExhausted = true)

end Sys2Proof

namespace Sys2Proof.Machine

/-- The row of 10_state.md R43 for the state's FSM state (the counters' ranges, the marker's place in
the buffer, and `stop_req` = 0 in IDLE). -/
def State.RowInv (s : State) : Prop :=
  match s.fsm with
  | .idle => s.budgetCnt = 0#8 ∧ s.colCnt = 0#5 ∧ (∀ k : Fin 16, s.buf[k] = 0#8) ∧ s.stopReq = false
  | .seek => s.budgetCnt.toNat < s.params.budget.toNat ∧ s.colCnt = 0#5
  | .skip => 1 ≤ s.budgetCnt.toNat ∧ s.budgetCnt.toNat < s.params.budget.toNat ∧ s.colCnt = 1#5 ∧
      s.buf[0] = s.params.startMarker
  | .collect => 2 ≤ s.budgetCnt.toNat ∧ s.budgetCnt.toNat ≤ s.params.budget.toNat ∧
      2 ≤ s.colCnt.toNat ∧ s.colCnt.toNat ≤ 15 ∧
      (∀ k : Fin 16, k.val + 1 = s.colCnt.toNat → s.buf[k] = s.params.startMarker)
  | .decode => 2 ≤ s.budgetCnt.toNat ∧ s.budgetCnt.toNat ≤ s.params.budget.toNat ∧
      s.colCnt = 16#5 ∧ s.buf[15] = s.params.startMarker
  | .emit => s.budgetCnt.toNat ≤ s.params.budget.toNat ∧ s.colCnt.toNat ≤ 16
  | .stopped => s.budgetCnt.toNat ≤ s.params.budget.toNat ∧ s.colCnt.toNat ≤ 16
  | .done => s.budgetCnt.toNat ≤ s.params.budget.toNat ∧ s.colCnt.toNat ≤ 16

/-- What the result registers hold for each kind, every register the kind does not list being 0
(30_encoding.md R84 to R86) and every error's value being one that its check rejects
(60_exceptions.md R240). No kind 7, no error field 6 or 7 (R87), no START_WORD mismatch
(43_lookup_validator.md R192). -/
def Result.Legal (p : Params) (r : Result) : Prop :=
  r = { kind := 0#3 } ∨ r = { kind := 2#3 } ∨ r = { kind := 6#3 }
  ∨ (∃ b : Byte, b ≠ p.endMarker ∧ r = { kind := 3#3, errField := 1#3, errValue := b.setWidth 16 })
  ∨ (∃ b : Byte, ¬ (0x30 ≤ b.toNat ∧ b.toNat ≤ 0x33) ∧
      r = { kind := 4#3, errField := 3#3, errValue := b.setWidth 16 })
  ∨ (∃ b : Byte, ¬ (0x31 ≤ b.toNat ∧ b.toNat ≤ 0x34) ∧
      r = { kind := 4#3, errField := 4#3, errValue := b.setWidth 16 })
  ∨ (∃ c : Code16, (∀ i : Fin 16, p.annCode[i] ≠ c) ∧
      r = { kind := 5#3, errField := 5#3, errValue := c })
  ∨ (r.kind = 1#3 ∧ 1 ≤ r.disp.toNat ∧ r.disp.toNat ≤ 4 ∧
      p.annCode[r.annIdx.toFin] = r.annCode ∧ r.errField = 0#3 ∧ r.errValue = 0#16)

/-- The result registers are legal, and a result held for the sink is not NONE
(44_frame_decoder_fsm.md R226). -/
def State.ResultInv (s : State) : Prop :=
  s.res.Legal s.params ∧ (s.fsm = .emit → s.res.kind ≠ 0#3)

/-- With `rst` = 0: the coming step selects the operation `i` and, where the operation leads to `t`,
ends in `t` with the stop latch (44_frame_decoder_fsm.md R220) and the next edge's inputs (the model's own
fields, log entries 4 and 5). -/
def State.StepsBy (s : State) (i : Instr) (t : State) : Prop :=
  decode s.opw = i ∧
  step s = .next { t with
    stopReq := t.stopReq || s.sample.stop, upcoming := s.upcoming.tail, cycle := s.cycle + 1 }

/-- `v'` is `v` after `shift_in(b)`: `b` at 0, every other byte from one place below
(41_frame_reversal_buffer.md R131). -/
def ShiftedIn (b : Byte) (v v' : Frame) : Prop :=
  v'[0] = b ∧ ∀ k : Fin 15, v'[k.val + 1] = v[k.val]

/-- An iteration has just begun: the state `begin_iteration` leaves (44_frame_decoder_fsm.md R212),
under legal parameters. -/
def State.Fresh (s : State) : Prop :=
  s.params.wellFormed = true ∧ s.fsm = .seek ∧ s.budgetCnt = 0#8 ∧ s.colCnt = 0#5

/-- The bytes accepted in the first `n` steps from `s`, in order (10_state.md R39). -/
def acceptedIn : Nat → State → List Byte
  | 0, _ => []
  | n + 1, s =>
    match step s with
    | .next t => s.acceptedByte.toList ++ acceptedIn n t
    | .fault _ => []
    | .refused _ => []

/-- The results handed over in the first `n` steps from `s`, in order (10_state.md R40). -/
def handedIn : Nat → State → List Result
  | 0, _ => []
  | n + 1, s =>
    match step s with
    | .next t => s.handedOver.toList ++ handedIn n t
    | .fault _ => []
    | .refused _ => []

/-- No step of the first `n` from `s` is a reset step. -/
def noResetIn : Nat → State → Prop
  | 0, _ => True
  | n + 1, s => s.sample.rst = false ∧ ∀ t, step s = .next t → noResetIn n t

/-- The fields a frame must have to decode to a READING (42_field_parser.md R167). -/
def ParsedFields.Valid (p : Params) (f : ParsedFields) : Prop :=
  f.endWord = p.endMarker ∧ f.startWord = p.startMarker ∧
  (0x30 ≤ f.dpRaw.toNat ∧ f.dpRaw.toNat ≤ 0x33) ∧
  (∃ i : Fin 16, p.annCode[i] = f.code0 ++ f.code1) ∧
  (0x31 ≤ f.dispRaw.toNat ∧ f.dispRaw.toNat ≤ 0x34)

/-- A result is the READING of valid fields (42_field_parser.md R167): every payload register as
30_encoding.md R86 lists it, `res_ann_idx` the lowest ROM index of the code (R182). -/
def Result.IsReadingOf (p : Params) (f : ParsedFields) (r : Result) : Prop :=
  r.kind = 1#3 ∧
  r.digits = f.digits[0] ++ f.digits[1] ++ f.digits[2] ++ f.digits[3] ++ f.digits[4] ++ f.digits[5]
    ++ f.digits[6] ++ f.digits[7] ∧
  r.dp.toNat = f.dpRaw.toNat - 0x30 ∧
  r.neg = decide (f.polRaw ≠ 0x30#8) ∧
  r.disp.toNat = f.dispRaw.toNat - 0x30 ∧
  r.annCode = f.code0 ++ f.code1 ∧
  p.annCode[r.annIdx.toFin] = f.code0 ++ f.code1 ∧
  (∀ j : Fin 16, j.val < r.annIdx.toNat → p.annCode[j] ≠ f.code0 ++ f.code1) ∧
  r.d14 = f.d14 ∧ r.errField = 0#3 ∧ r.errValue = 0#16

end Sys2Proof.Machine
end

