-- ==== Sys2Proof/Certificates/Slice0/Obligations.lean ====
section
/-! DEFINITION. The statements for the provers. Each docstring names the rule of spec/ it formalises.
`s.sample` is what the input ports carry at the coming edge (10_state.md R38); a record update names all
that changes, so it is the frame as well. `upcoming` and `cycle` are the model's own fields (log entries 4
and 5): a step drops the port values that are past and counts. The premises `budgetCnt < 255` and
`colCnt < 31` only rule out states that no run reaches (00_scope.md R13, log entry 6); that runs keep them is
`EveryStepKeepsRowInvariant`. -/

open Sys2Proof Sys2Proof.Machine

/-! ### The selector word -/

/-- 30_encoding.md R80: the eleven bits of OPW, each from its source. -/
def Obligations.SelectorWordBits : Prop :=
  ∀ s : State,
    s.opw.getLsbD 10 = s.sample.rst ∧
    s.opw.extractLsb' 7 3 = s.fsm.code ∧
    s.opw.getLsbD 6 = s.sample.inValid ∧
    s.opw.getLsbD 5 = decide (s.sample.inData = s.params.startMarker) ∧
    s.opw.getLsbD 4 = s.sample.inTimeout ∧
    s.opw.getLsbD 3 = s.sample.inExhausted ∧
    s.opw.getLsbD 2 = s.sample.outReady ∧
    s.opw.getLsbD 1 = s.sample.start ∧
    s.opw.getLsbD 0 = s.sample.stop

/-- 30_encoding.md R81: the read outcome by v, m, ex, to, in priority order. -/
def Obligations.ReadOutcomePriority : Prop :=
  ∀ m ex tmo : Bool,
    readOutcome true true ex tmo = .mark ∧
    readOutcome true false ex tmo = .other ∧
    readOutcome false m true tmo = .exhausted ∧
    readOutcome false m false true = .timeout ∧
    readOutcome false m false false = .none

/-- 30_encoding.md R82: a few words written out bit by bit from the operation map. -/
def Obligations.WrittenOutWordsDecode : Prop :=
  decode 0b10000000000#11 = .reset ∧
  decode 0b00000000010#11 = .idleStart ∧
  decode 0b00011100000#11 = .seekMark ∧
  decode 0b00101000000#11 = .skipOther ∧
  decode 0b00110010000#11 = .collectTimeout ∧
  decode 0b01000000000#11 = .decodeFrame ∧
  decode 0b01010000100#11 = .emitRelease ∧
  decodeTableWord 16 0b0000001110000000 = some .doneHold

/-- 30_encoding.md R82: for every operation and every value of the bits its row ignores, the encoded word
decodes to the operation, also as the number the opcode table writes. -/
def Obligations.DecodeOfEncodeIsIdentity : Prop :=
  ∀ (i : Instr) (x : Opw), i.wellFormed = true →
    decode (encodeWith i x) = i ∧ decodeTableWord 16 (encodeWith i x).toNat = some i

/-- 30_encoding.md R83: every OPW value matches exactly one row of the operation map (R82), the one it
decodes to. -/
def Obligations.EveryWordMatchesExactlyOneRow : Prop :=
  ∀ w : Opw, rowMatches (decode w) w = true ∧ ∀ i : Instr, rowMatches i w = true → i = decode w

/-- The model's fetch: the state made to present a word selects exactly that word, and differs only in the
FSM state and the port values of the coming edge. Model's choice, log entry 4. -/
def Obligations.PresentedWordIsSelected : Prop :=
  ∀ (s : State) (w : Nat),
    (s.withFetchWord 16 w).opw = BitVec.ofNat 11 w ∧
    s.withFetchWord 16 w =
      { s with fsm := (s.withFetchWord 16 w).fsm, upcoming := (s.withFetchWord 16 w).upcoming } ∧
    (s.withFetchWord 16 w).upcoming.tail = s.upcoming.tail

/-! ### The step -/

/-- 44_frame_decoder_fsm.md R200: under legal parameters a step performs the operation its OPW selects,
with the stop latch (R220) beside it unless `rst` = 1, and goes on to the next edge's port values. -/
def Obligations.StepRunsDecodedOperation : Prop :=
  ∀ (s t : State) (i : Instr), s.params.wellFormed = true → decode s.opw = i → i.wellFormed = true →
    exec i s = .next t →
    step s = .next { t with
      stopReq := if s.sample.rst = true then t.stopReq else (t.stopReq || s.sample.stop)
      upcoming := s.upcoming.tail
      cycle := s.cycle + 1 }

/-- 93_implementation_defined.md I12: a machine whose BUDGET is outside 1..255 is refused; that the
step answers the refusal is the model's choice, log entry 8. -/
def Obligations.IllegalBudgetIsRefused : Prop :=
  ∀ s : State, s.params.budget = 0#8 → step s = .refused .illegalBudget

/-- 44_frame_decoder_fsm.md R220: in every step with `rst` = 0, `stop` = 1 sets `stop_req`; nothing else
writes it but reset. -/
def Obligations.StopIsLatchedInEveryState : Prop :=
  ∀ s t : State, step s = .next t →
    (s.sample.rst = false → s.sample.stop = true → t.stopReq = true) ∧
    (s.sample.rst = false → s.sample.stop = false → t.stopReq = s.stopReq) ∧
    (s.sample.rst = true → t.stopReq = false)

/-- 10_state.md R38 (and 44_frame_decoder_fsm.md R221): two edges whose port values agree where they are
sampled lead to the same state. -/
def Obligations.UnsampledInputsHaveNoEffect : Prop :=
  ∀ (s : State) (i j : Inputs) (l : List Inputs),
    i.rst = j.rst →
    (i.rst = false →
      i.stop = j.stop ∧
      (s.fsm = .idle → i.start = j.start) ∧
      (s.inReady = true → i.inValid = j.inValid) ∧
      (s.inReady = true → i.inValid = true → i.inData = j.inData) ∧
      (s.inReady = true → i.inValid = false →
        i.inTimeout = j.inTimeout ∧ i.inExhausted = j.inExhausted) ∧
      (s.fsm = .emit → i.outReady = j.outReady)) →
    step { s with upcoming := i :: l } = step { s with upcoming := j :: l }

/-- 70_reset_and_hazards.md R275 item 1: no step with `rst` = 0 changes a parameter. That a step with
`rst` = 1 keeps them too is the model's choice, log entry 1: R275 lets a change take effect through a reset. -/
def Obligations.ParametersNeverChange : Prop :=
  ∀ s t : State, step s = .next t → t.params = s.params

/-! ### Reset -/

/-- 10_state.md R42: the registers and the output ports of the state after reset, and after any step with
`rst` = 1. -/
def Obligations.ResetStateValues : Prop :=
  ∀ t : State,
    ((∃ p : Params, t = State.resetWith p) ∨ (∃ s : State, s.sample.rst = true ∧ step s = .next t)) →
    t.fsm.code = 0#3 ∧ t.budgetCnt = 0#8 ∧ t.colCnt = 0#5 ∧ (∀ k : Fin 16, t.buf[k] = 0#8) ∧
    t.stopReq = false ∧
    t.res =
      { kind := 0#3, digits := 0#64, dp := 0#2, neg := false, disp := 0#3, annIdx := 0#4
        annCode := 0#16, d14 := 0#8, errField := 0#3, errValue := 0#16 } ∧
    t.outputs =
      { inReady := false, outValid := false, out := t.res, status := 0#3, stopPending := false }

/-- 70_reset_and_hazards.md R270: a step with `rst` = 1 selects RESET whatever else is on the ports, writes
every register its reset value, accepts no byte and hands over no result. That it keeps the parameters
(`State.resetWith s.params`) is the model's choice, log entry 1. -/
def Obligations.ResetStepWritesEveryRegister : Prop :=
  ∀ s : State, s.params.wellFormed = true → s.sample.rst = true →
    decode s.opw = .reset ∧
    exec .reset s = .next { State.resetWith s.params with upcoming := s.upcoming, cycle := s.cycle } ∧
    step s = .next { State.resetWith s.params with
      upcoming := s.upcoming.tail
      cycle := s.cycle + 1 } ∧
    s.acceptedByte = none ∧ s.handedOver = none

/-! ### Phases 1 and 2 -/

/-- 40_frame_synchronizer.md R102: SEEK.MARK counts the marker; at the budget it captures SYNC_TIMEOUT, else
it keeps the marker as W[0] and moves to SKIP. -/
def Obligations.SeekMarkKeepsOneMarker : Prop :=
  ∀ s : State, s.params.wellFormed = true → s.fsm = .seek → s.sample.rst = false →
    s.sample.inValid = true → s.sample.inData = s.params.startMarker → s.budgetCnt.toNat < 255 →
    ∃ t : State, exec .seekMark s = .next t ∧ s.StepsBy .seekMark t ∧
      s.acceptedByte = some s.sample.inData ∧
      (s.budgetCnt + 1#8 = s.params.budget →
        t = { s with budgetCnt := s.budgetCnt + 1#8, res := { kind := 2#3 }, fsm := .emit }) ∧
      (s.budgetCnt + 1#8 ≠ s.params.budget →
        t = { s with budgetCnt := s.budgetCnt + 1#8, colCnt := 1#5, fsm := .skip, buf := t.buf } ∧
        ShiftedIn s.params.startMarker s.buf t.buf)

/-- 40_frame_synchronizer.md R103: SEEK.OTHER discards the byte and counts it; at the budget it captures
SYNC_TIMEOUT. -/
def Obligations.SeekOtherDiscardsByte : Prop :=
  ∀ s : State, s.params.wellFormed = true → s.fsm = .seek → s.sample.rst = false →
    s.sample.inValid = true → s.sample.inData ≠ s.params.startMarker → s.budgetCnt.toNat < 255 →
    ∃ t : State, exec .seekOther s = .next t ∧ s.StepsBy .seekOther t ∧
      s.acceptedByte = some s.sample.inData ∧
      (s.budgetCnt + 1#8 = s.params.budget →
        t = { s with budgetCnt := s.budgetCnt + 1#8, res := { kind := 2#3 }, fsm := .emit }) ∧
      (s.budgetCnt + 1#8 ≠ s.params.budget → t = { s with budgetCnt := s.budgetCnt + 1#8 })

/-- 40_frame_synchronizer.md R108: SKIP.MARK skips a duplicate marker and counts it; at the budget it
captures SYNC_TIMEOUT. -/
def Obligations.SkipMarkSkipsDuplicate : Prop :=
  ∀ s : State, s.params.wellFormed = true → s.fsm = .skip → s.sample.rst = false →
    s.sample.inValid = true → s.sample.inData = s.params.startMarker → s.budgetCnt.toNat < 255 →
    ∃ t : State, exec .skipMark s = .next t ∧ s.StepsBy .skipMark t ∧
      s.acceptedByte = some s.sample.inData ∧
      (s.budgetCnt + 1#8 = s.params.budget →
        t = { s with budgetCnt := s.budgetCnt + 1#8, res := { kind := 2#3 }, fsm := .emit }) ∧
      (s.budgetCnt + 1#8 ≠ s.params.budget → t = { s with budgetCnt := s.budgetCnt + 1#8 })

/-- 40_frame_synchronizer.md R109: SKIP.OTHER counts the first content byte, keeps it as W[1] and moves to
COLLECT, at the budget as below it. -/
def Obligations.SkipOtherKeepsFirstContentByte : Prop :=
  ∀ s : State, s.params.wellFormed = true → s.fsm = .skip → s.sample.rst = false →
    s.sample.inValid = true → s.sample.inData ≠ s.params.startMarker → s.budgetCnt.toNat < 255 →
    ∃ t : State, exec .skipOther s = .next t ∧ s.StepsBy .skipOther t ∧
      s.acceptedByte = some s.sample.inData ∧
      t = { s with
        budgetCnt := s.budgetCnt + 1#8, colCnt := 2#5, fsm := .collect, buf := t.buf } ∧
      ShiftedIn s.sample.inData s.buf t.buf

/-! ### Phase 3 -/

/-- 41_frame_reversal_buffer.md R134: COLLECT.BYTE keeps any byte and leaves the budget alone; the sixteenth
byte leads to DECODE. -/
def Obligations.CollectByteFillsBuffer : Prop :=
  ∀ s : State, s.params.wellFormed = true → s.fsm = .collect → s.sample.rst = false →
    s.sample.inValid = true → s.colCnt.toNat < 31 →
    ∃ t : State, exec .collectByte s = .next t ∧ s.StepsBy .collectByte t ∧
      s.acceptedByte = some s.sample.inData ∧
      (s.colCnt.toNat + 1 = 16 →
        t = { s with colCnt := s.colCnt + 1#5, fsm := .decode, buf := t.buf }) ∧
      (s.colCnt.toNat + 1 ≠ 16 → t = { s with colCnt := s.colCnt + 1#5, buf := t.buf }) ∧
      ShiftedIn s.sample.inData s.buf t.buf

/-! ### Outcomes without a byte -/

/-- 40_frame_synchronizer.md R105 and R110, 41_frame_reversal_buffer.md R135: exhaustion while the core waits
for a byte captures SOURCE_EXHAUSTED, a timeout offered with it being ignored; nothing is accepted. -/
def Obligations.ExhaustionEndsIteration : Prop :=
  ∀ s : State, s.params.wellFormed = true → s.sample.rst = false →
    s.sample.inValid = false → s.sample.inExhausted = true →
    s.acceptedByte = none ∧
    (s.fsm = .seek →
      exec .seekExhausted s = .next { s with res := { kind := 6#3 }, fsm := .emit } ∧
      s.StepsBy .seekExhausted { s with res := { kind := 6#3 }, fsm := .emit }) ∧
    (s.fsm = .skip →
      exec .skipExhausted s = .next { s with res := { kind := 6#3 }, fsm := .emit } ∧
      s.StepsBy .skipExhausted { s with res := { kind := 6#3 }, fsm := .emit }) ∧
    (s.fsm = .collect →
      exec .collectExhausted s = .next { s with res := { kind := 6#3 }, fsm := .emit } ∧
      s.StepsBy .collectExhausted { s with res := { kind := 6#3 }, fsm := .emit })

/-- 40_frame_synchronizer.md R106 and R111, 41_frame_reversal_buffer.md R137: a read timeout without a byte
and without exhaustion captures SYNC_TIMEOUT; nothing is accepted. -/
def Obligations.TimeoutEndsIteration : Prop :=
  ∀ s : State, s.params.wellFormed = true → s.sample.rst = false →
    s.sample.inValid = false → s.sample.inExhausted = false → s.sample.inTimeout = true →
    s.acceptedByte = none ∧
    (s.fsm = .seek →
      exec .seekTimeout s = .next { s with res := { kind := 2#3 }, fsm := .emit } ∧
      s.StepsBy .seekTimeout { s with res := { kind := 2#3 }, fsm := .emit }) ∧
    (s.fsm = .skip →
      exec .skipTimeout s = .next { s with res := { kind := 2#3 }, fsm := .emit } ∧
      s.StepsBy .skipTimeout { s with res := { kind := 2#3 }, fsm := .emit }) ∧
    (s.fsm = .collect →
      exec .collectTimeout s = .next { s with res := { kind := 2#3 }, fsm := .emit } ∧
      s.StepsBy .collectTimeout { s with res := { kind := 2#3 }, fsm := .emit })

/-- 40_frame_synchronizer.md R107 and R112, 41_frame_reversal_buffer.md R138: with no read outcome the core
waits and nothing changes. -/
def Obligations.NoOutcomeWaits : Prop :=
  ∀ s : State, s.params.wellFormed = true → s.sample.rst = false →
    s.sample.inValid = false → s.sample.inExhausted = false → s.sample.inTimeout = false →
    (s.fsm = .seek → exec .seekNone s = .next s ∧ s.StepsBy .seekNone s) ∧
    (s.fsm = .skip → exec .skipNone s = .next s ∧ s.StepsBy .skipNone s) ∧
    (s.fsm = .collect → exec .collectNone s = .next s ∧ s.StepsBy .collectNone s)

/-! ### The acquisition loop -/

/-- 44_frame_decoder_fsm.md R201: IDLE.START begins an iteration. -/
def Obligations.StartBeginsIteration : Prop :=
  ∀ s : State, s.params.wellFormed = true → s.fsm = .idle → s.sample.rst = false →
    s.sample.start = true → s.sample.stop = false →
    exec .idleStart s = .next { s with budgetCnt := 0#8, colCnt := 0#5, fsm := .seek } ∧
    s.StepsBy .idleStart { s with budgetCnt := 0#8, colCnt := 0#5, fsm := .seek } ∧
    s.acceptedByte = none

/-- 44_frame_decoder_fsm.md R203: IDLE.STOP ends the loop before its first iteration, `start` ignored; the
stop latch sets `stop_req` in the same step. -/
def Obligations.StopInIdleWins : Prop :=
  ∀ s : State, s.params.wellFormed = true → s.fsm = .idle → s.sample.rst = false →
    s.sample.stop = true →
    exec .idleStop s = .next { s with fsm := .stopped } ∧
    s.StepsBy .idleStop { s with fsm := .stopped } ∧
    step s = .next { s with
      fsm := .stopped, stopReq := true, upcoming := s.upcoming.tail, cycle := s.cycle + 1 } ∧
    s.handedOver = none

/-- 44_frame_decoder_fsm.md R202, R210, R213, R214: IDLE.WAIT, EMIT.HOLD, STOPPED.HOLD and DONE.HOLD change
nothing, and no byte is accepted and no result handed over. -/
def Obligations.HoldOperationsChangeNothing : Prop :=
  ∀ s : State, s.params.wellFormed = true → s.sample.rst = false →
    (s.fsm = .idle → s.sample.start = false → s.sample.stop = false →
      exec .idleWait s = .next s ∧ s.StepsBy .idleWait s ∧ s.acceptedByte = none) ∧
    (s.fsm = .emit → s.sample.outReady = false →
      exec .emitHold s = .next s ∧ s.StepsBy .emitHold s ∧
      s.acceptedByte = none ∧ s.handedOver = none) ∧
    (s.fsm = .stopped →
      exec .stoppedHold s = .next s ∧ s.StepsBy .stoppedHold s ∧
      s.acceptedByte = none ∧ s.handedOver = none) ∧
    (s.fsm = .done →
      exec .doneHold s = .next s ∧ s.StepsBy .doneHold s ∧
      s.acceptedByte = none ∧ s.handedOver = none)

/-- 44_frame_decoder_fsm.md R204: DECODE captures DEC of the buffer in one step and accepts no byte. -/
def Obligations.DecodeCapturesDecOfBuffer : Prop :=
  ∀ s : State, s.params.wellFormed = true → s.fsm = .decode → s.sample.rst = false →
    exec .decodeFrame s = .next { s with res := dec s.params s.buf, fsm := .emit } ∧
    s.StepsBy .decodeFrame { s with res := dec s.params s.buf, fsm := .emit } ∧
    s.acceptedByte = none

/-- 44_frame_decoder_fsm.md R211: EMIT.RELEASE hands the held result over; exhaustion ends the loop in DONE,
else a stop latched or in this very cycle ends it in STOPPED, else the next iteration begins. -/
def Obligations.ReleaseHandsOverAndGoesOn : Prop :=
  ∀ s : State, s.params.wellFormed = true → s.fsm = .emit → s.sample.rst = false →
    s.sample.outReady = true →
    s.handedOver = some s.res ∧ s.acceptedByte = none ∧
    ∃ t : State, exec .emitRelease s = .next t ∧ s.StepsBy .emitRelease t ∧
      (s.res.kind = 6#3 → t = { s with fsm := .done }) ∧
      (s.res.kind ≠ 6#3 → (s.stopReq = true ∨ s.sample.stop = true) →
        t = { s with fsm := .stopped }) ∧
      (s.res.kind ≠ 6#3 → s.stopReq = false → s.sample.stop = false →
        t = { s with budgetCnt := 0#8, colCnt := 0#5, fsm := .seek })

/-- 44_frame_decoder_fsm.md R225: the transition table, with the operation that makes each transition; every
state goes to IDLE by RESET, and there is no other transition. -/
def Obligations.TransitionTable : Prop :=
  ∀ s t : State, s.RowInv → step s = .next t →
    (s.sample.rst = true → t.fsm = .idle ∧ decode s.opw = .reset) ∧
    (s.sample.rst = false →
      match s.fsm, t.fsm with
      | .idle, .idle => decode s.opw = .idleWait
      | .idle, .seek => decode s.opw = .idleStart
      | .idle, .stopped => decode s.opw = .idleStop
      | .seek, .seek =>
        (decode s.opw = .seekOther ∧ s.budgetCnt.toNat + 1 < s.params.budget.toNat) ∨
        decode s.opw = .seekNone
      | .seek, .skip => decode s.opw = .seekMark ∧ s.budgetCnt.toNat + 1 < s.params.budget.toNat
      | .seek, .emit =>
        ((decode s.opw = .seekMark ∨ decode s.opw = .seekOther) ∧
          s.budgetCnt.toNat + 1 = s.params.budget.toNat) ∨
        decode s.opw = .seekTimeout ∨ decode s.opw = .seekExhausted
      | .skip, .skip =>
        (decode s.opw = .skipMark ∧ s.budgetCnt.toNat + 1 < s.params.budget.toNat) ∨
        decode s.opw = .skipNone
      | .skip, .collect => decode s.opw = .skipOther
      | .skip, .emit =>
        (decode s.opw = .skipMark ∧ s.budgetCnt.toNat + 1 = s.params.budget.toNat) ∨
        decode s.opw = .skipTimeout ∨ decode s.opw = .skipExhausted
      | .collect, .collect =>
        (decode s.opw = .collectByte ∧ s.colCnt.toNat + 1 < 16) ∨ decode s.opw = .collectNone
      | .collect, .decode => decode s.opw = .collectByte ∧ s.colCnt.toNat + 1 = 16
      | .collect, .emit => decode s.opw = .collectTimeout ∨ decode s.opw = .collectExhausted
      | .decode, .emit => decode s.opw = .decodeFrame
      | .emit, .emit => decode s.opw = .emitHold
      | .emit, .seek => decode s.opw = .emitRelease ∧ s.res.kind ≠ 6#3 ∧
        s.stopReq = false ∧ s.sample.stop = false
      | .emit, .stopped => decode s.opw = .emitRelease ∧ s.res.kind ≠ 6#3 ∧
        (s.stopReq = true ∨ s.sample.stop = true)
      | .emit, .done => decode s.opw = .emitRelease ∧ s.res.kind = 6#3
      | .stopped, .stopped => decode s.opw = .stoppedHold
      | .done, .done => decode s.opw = .doneHold
      | _, _ => False)

/-- 44_frame_decoder_fsm.md R227: outside reset the loop is entered into STOPPED only by a stop in IDLE or at
a hand-over, and into DONE only at the hand-over of SOURCE_EXHAUSTED; any other hand-over without a stop
is followed by a fresh iteration. -/
def Obligations.OnlyStopOrExhaustionEndsLoop : Prop :=
  ∀ s t : State, step s = .next t → s.sample.rst = false →
    (t.fsm = .stopped → s.fsm ≠ .stopped →
      (s.fsm = .idle ∧ s.sample.stop = true) ∨
      (s.handedOver = some s.res ∧ s.res.kind ≠ 6#3 ∧ (s.stopReq = true ∨ s.sample.stop = true))) ∧
    (t.fsm = .done → s.fsm ≠ .done → s.handedOver = some s.res ∧ s.res.kind = 6#3) ∧
    (s.handedOver = some s.res → s.res.kind ≠ 6#3 → s.stopReq = false → s.sample.stop = false →
      t.Fresh)

/-- 60_exceptions.md R252: no operation of EMIT captures a result, so a held result is never overwritten
before the sink takes it, and a stop in EMIT is only latched while the sink stalls. -/
def Obligations.HeldResultIsNeverOverwritten : Prop :=
  ∀ s t : State, step s = .next t → s.sample.rst = false → s.fsm = .emit →
    t.res = s.res ∧
    (s.sample.outReady = false →
      t = { s with stopReq := s.stopReq || s.sample.stop
                   upcoming := s.upcoming.tail, cycle := s.cycle + 1 })

/-- 10_state.md R26 with 44_frame_decoder_fsm.md R205: outside reset the result registers change only in a
step that captures a result, from SEEK, SKIP, COLLECT or DECODE into EMIT, and that step leaves `col_cnt`
and the buffer alone. -/
def Obligations.ResultChangesOnlyOnCapture : Prop :=
  ∀ s t : State, step s = .next t → s.sample.rst = false → t.res ≠ s.res →
    t.fsm = .emit ∧ (s.fsm = .seek ∨ s.fsm = .skip ∨ s.fsm = .collect ∨ s.fsm = .decode) ∧
    t.colCnt = s.colCnt ∧ t.buf = s.buf

/-! ### Ports and transfers -/

/-- 10_state.md R41: `in_ready` and `out_valid` are functions of `state` alone, and no output depends on an
input. -/
def Obligations.HandshakeOutputs : Prop :=
  ∀ (s : State) (l : List Inputs) (n : Nat),
    (s.outputs.inReady = true ↔ s.fsm = .seek ∨ s.fsm = .skip ∨ s.fsm = .collect) ∧
    (s.outputs.outValid = true ↔ s.fsm = .emit) ∧
    State.outputs { s with upcoming := l, cycle := n } = s.outputs

/-- 10_state.md R39 and R40 against the pseudocode's `accept`: a byte is accepted exactly in the five
operations that accept one, a result handed over exactly in EMIT.RELEASE. -/
def Obligations.TransfersHappenInTheirOperations : Prop :=
  ∀ s : State,
    (∀ b : Byte, s.acceptedByte = some b ↔
      b = s.sample.inData ∧
      (decode s.opw = .seekMark ∨ decode s.opw = .seekOther ∨ decode s.opw = .skipMark ∨
        decode s.opw = .skipOther ∨ decode s.opw = .collectByte)) ∧
    (∀ r : Result, s.handedOver = some r ↔ r = s.res ∧ decode s.opw = .emitRelease)

/-! ### The buffer, the parser and the validator -/

/-- 41_frame_reversal_buffer.md R131: what `shift_in(b)` writes and that it writes nothing else; outside reset
a step leaves the buffer alone or shifts one byte in, and the latter only in the three operations that call
`shift_in`, with the accepted byte. -/
def Obligations.BufferWrittenOnlyByShiftIn : Prop :=
  (∀ (s : State) (b : Byte),
    ShiftedIn b s.buf (s.shiftIn b).buf ∧ s.shiftIn b = { s with buf := (s.shiftIn b).buf }) ∧
  ∀ s t : State, step s = .next t → s.sample.rst = false →
    t.buf = s.buf ∨
    (ShiftedIn s.sample.inData s.buf t.buf ∧ s.acceptedByte = some s.sample.inData ∧
      ((decode s.opw = .seekMark ∧ s.sample.inData = s.params.startMarker) ∨
        decode s.opw = .skipOther ∨ decode s.opw = .collectByte))

/-- 41_frame_reversal_buffer.md R133: after the sixteen bytes of a frame are shifted in, whatever stood
before, `buf[k] = W[15 - k]`. -/
def Obligations.SixteenShiftsReverseFrame : Prop :=
  ∀ (v w : Frame) (k : Fin 16),
    (w.toList.foldl (fun acc b => shiftIn b acc) v)[k] = w[15 - k.val]

/-- 42_field_parser.md R159 and R165: ENC followed by the wire-to-logical order and PARSE gives the record
back, and every sixteen logical bytes come back from their record. -/
def Obligations.ParseInvertsEncode : Prop :=
  (∀ f : ParsedFields, parse (reverseFrame f.wire) = f) ∧
  (∀ l : Frame, reverseFrame (parse l).wire = l)

/-- 43_lookup_validator.md R181, R182: LOOKUP hits exactly when some entry equals the code; the index is that
of the lowest matching entry, and 0 without a hit. -/
def Obligations.LookupGivesLowestIndex : Prop :=
  ∀ (rom : Vector Code16 16) (c : Code16),
    (romHit rom c = true ↔ ∃ i : Fin 16, rom[i] = c) ∧
    (romHit rom c = true → rom[(romIndex rom c).toFin] = c ∧
      ∀ j : Fin 16, j.val < (romIndex rom c).toNat → rom[j] ≠ c) ∧
    (romHit rom c = false → romIndex rom c = 0#4)

/-- 43_lookup_validator.md R188: DEC reports the first failing check in the order end word, start word,
decimal point, annunciator, display id, with the field and its raw value; else the READING. -/
def Obligations.DecReportsFirstFailedCheck : Prop :=
  ∀ (p : Params) (l : Frame),
    (l[0] ≠ p.endMarker →
      dec p l = { kind := 3#3, errField := 1#3, errValue := l[0].setWidth 16 }) ∧
    (l[0] = p.endMarker → l[15] ≠ p.startMarker →
      dec p l = { kind := 3#3, errField := 2#3, errValue := l[15].setWidth 16 }) ∧
    (l[0] = p.endMarker → l[15] = p.startMarker → ¬ (0x30 ≤ l[9].toNat ∧ l[9].toNat ≤ 0x33) →
      dec p l = { kind := 4#3, errField := 3#3, errValue := l[9].setWidth 16 }) ∧
    (l[0] = p.endMarker → l[15] = p.startMarker → 0x30 ≤ l[9].toNat → l[9].toNat ≤ 0x33 →
      (∀ i : Fin 16, p.annCode[i] ≠ l[12] ++ l[11]) →
      dec p l = { kind := 5#3, errField := 5#3, errValue := l[12] ++ l[11] }) ∧
    (l[0] = p.endMarker → l[15] = p.startMarker → 0x30 ≤ l[9].toNat → l[9].toNat ≤ 0x33 →
      (∃ i : Fin 16, p.annCode[i] = l[12] ++ l[11]) → ¬ (0x31 ≤ l[13].toNat ∧ l[13].toNat ≤ 0x34) →
      dec p l = { kind := 4#3, errField := 4#3, errValue := l[13].setWidth 16 }) ∧
    (l[0] = p.endMarker → l[15] = p.startMarker → 0x30 ≤ l[9].toNat → l[9].toNat ≤ 0x33 →
      (∃ i : Fin 16, p.annCode[i] = l[12] ++ l[11]) → 0x31 ≤ l[13].toNat → l[13].toNat ≤ 0x34 →
      (dec p l).IsReadingOf p
        { endWord := l[0], digits := #v[l[8], l[7], l[6], l[5], l[4], l[3], l[2], l[1]]
          dpRaw := l[9], polRaw := l[10], code0 := l[12], code1 := l[11], dispRaw := l[13]
          d14 := l[14], startWord := l[15] })

/-- 43_lookup_validator.md R190: a READING exactly when all five checks pass; on any failure an error kind
and no reading payload at all. -/
def Obligations.NoFabricatedReading : Prop :=
  ∀ (p : Params) (l : Frame),
    ((dec p l).kind = 1#3 ↔
      l[0] = p.endMarker ∧ l[15] = p.startMarker ∧ (0x30 ≤ l[9].toNat ∧ l[9].toNat ≤ 0x33) ∧
      (∃ i : Fin 16, p.annCode[i] = l[12] ++ l[11]) ∧ (0x31 ≤ l[13].toNat ∧ l[13].toNat ≤ 0x34)) ∧
    ((dec p l).kind ≠ 1#3 →
      ((dec p l).kind = 3#3 ∨ (dec p l).kind = 4#3 ∨ (dec p l).kind = 5#3) ∧
      dec p l = { kind := (dec p l).kind, errField := (dec p l).errField
                  errValue := (dec p l).errValue })

/-- 42_field_parser.md R167, its first half: the logical frame of ENC of valid fields decodes to their
READING and parses to the fields. -/
def Obligations.DecodeOfEncodedFieldsIsReading : Prop :=
  ∀ (p : Params) (f : ParsedFields), f.Valid p →
    (dec p (reverseFrame f.wire)).IsReadingOf p f ∧ parse (reverseFrame f.wire) = f

/-- 42_field_parser.md R166: FMT, for the eight characters of `res_digits` first to last. -/
def Obligations.FormatterPlacesSignAndSeparator : Prop :=
  ∀ (r : Result) (d0 d1 d2 d3 d4 d5 d6 d7 : Byte),
    r.digits = d0 ++ d1 ++ d2 ++ d3 ++ d4 ++ d5 ++ d6 ++ d7 →
    (r.dp = 0#2 → r.fmtBody = [d0, d1, d2, d3, d4, d5, d6, d7]) ∧
    (r.dp = 1#2 → r.fmtBody = [d0, d1, d2, d3, d4, d5, d6, 0x2E#8, d7]) ∧
    (r.dp = 2#2 → r.fmtBody = [d0, d1, d2, d3, d4, d5, 0x2E#8, d6, d7]) ∧
    (r.dp = 3#2 → r.fmtBody = [d0, d1, d2, d3, d4, 0x2E#8, d5, d6, d7]) ∧
    (r.neg = true → r.fmt = 0x2D#8 :: r.fmtBody) ∧
    (r.neg = false → r.fmt = r.fmtBody)

/-! ### Invariants -/

/-- 10_state.md R43 at reset: the row of IDLE holds, and the result registers are legal. -/
def Obligations.InvariantsHoldAtReset : Prop :=
  (∀ p : Params, (State.resetWith p).RowInv ∧ (State.resetWith p).ResultInv) ∧
  State.reset.RowInv ∧ State.reset.ResultInv

/-- 10_state.md R43: every step keeps the row of the FSM state: the counters' ranges under BUDGET, the place of
the start marker in the buffer, and `stop_req` = 0 in IDLE. -/
def Obligations.EveryStepKeepsRowInvariant : Prop :=
  ∀ s t : State, s.RowInv → step s = .next t → t.RowInv

/-- 30_encoding.md R84 to R87, 43_lookup_validator.md R190 and R192, 60_exceptions.md R240: every step keeps the
result registers legal for their kind, and in EMIT the kind is not NONE. -/
def Obligations.EveryStepKeepsResultsLegal : Prop :=
  ∀ s t : State, s.RowInv → s.ResultInv → step s = .next t → t.ResultInv

/-- 30_encoding.md R87, 44_frame_decoder_fsm.md R226, 93_implementation_defined.md I6 and I21: over any number
of steps no consumer ever finds a handed-over result that no rule writes. -/
def Obligations.ConsumerNeverFindsFault : Prop :=
  ∀ (n : Nat) (s : State), s.RowInv → s.ResultInv → ∀ r ∈ handedIn n s, r.receive = .ok r

/-! ### Laws of an iteration -/

/-- 40_frame_synchronizer.md R113, success, for a source that offers a byte at every edge: bytes without a
marker, then one or more markers, then a non-marker within the budget lead to COLLECT with exactly these
bytes accepted, `buf[1]` the marker and `buf[0]` the non-marker. -/
def Obligations.SynchronizationSucceeds : Prop :=
  ∀ (s : State) (ins rest : List Inputs) (pre : List Byte) (m : Nat) (b : Byte),
    s.Fresh → s.upcoming = ins ++ rest → (∀ i ∈ ins, i.offersByte) →
    ins.map (·.inData) = pre ++ List.replicate (m + 1) s.params.startMarker ++ [b] →
    s.params.startMarker ∉ pre → b ≠ s.params.startMarker →
    ins.length ≤ s.params.budget.toNat →
    ∃ t : State, Host.Core.run Sys2Proof.core ins.length s = .next t ∧
      t.fsm = .collect ∧ t.budgetCnt.toNat = ins.length ∧ t.colCnt = 2#5 ∧
      t.buf[1] = s.params.startMarker ∧ t.buf[0] = b ∧
      acceptedIn ins.length s = ins.map (·.inData) ∧ t.upcoming = rest

/-- 40_frame_synchronizer.md R113, failure, for a source that offers a byte at every edge: BUDGET bytes that
hold no marker followed by a non-marker end the iteration with SYNC_TIMEOUT after exactly BUDGET bytes. -/
def Obligations.SynchronizationTimesOutAtBudget : Prop :=
  ∀ (s : State) (ins rest : List Inputs) (pre : List Byte) (m : Nat),
    s.Fresh → s.upcoming = ins ++ rest → (∀ i ∈ ins, i.offersByte) →
    ins.map (·.inData) = pre ++ List.replicate m s.params.startMarker →
    s.params.startMarker ∉ pre →
    ins.length = s.params.budget.toNat →
    ∃ t : State, Host.Core.run Sys2Proof.core ins.length s = .next t ∧
      t.fsm = .emit ∧ t.res = { kind := 2#3 } ∧ t.budgetCnt = s.params.budget ∧
      acceptedIn ins.length s = ins.map (·.inData) ∧ t.upcoming = rest

/-- 41_frame_reversal_buffer.md R133 with 44_frame_decoder_fsm.md R204 and 70_reset_and_hazards.md R290: sixteen
wire bytes that begin with exactly one start marker, offered at sixteen consecutive edges to a fresh
iteration, are held seventeen steps later as the result of DEC on the reversed frame. Streams with silent edges
between the bytes (70_reset_and_hazards.md R280) are left out. -/
def Obligations.AlignedFrameIsDecoded : Prop :=
  ∀ (s : State) (ins rest : List Inputs) (last : Inputs) (w : Frame),
    s.Fresh → 2 ≤ s.params.budget.toNat → s.upcoming = ins ++ last :: rest →
    (∀ i ∈ ins, i.offersByte) → last.rst = false → ins.map (·.inData) = w.toList →
    w[0] = s.params.startMarker → w[1] ≠ s.params.startMarker →
    ∃ t : State, Host.Core.run Sys2Proof.core 17 s = .next t ∧
      t.fsm = .emit ∧ t.res = dec s.params (reverseFrame w) ∧
      acceptedIn 17 s = w.toList ∧ handedIn 17 s = [] ∧ t.upcoming = rest

/-- From 42_field_parser.md R167: for valid fields, decoding the logical frame of ENC gives their READING and
PARSE gives the fields; when d14 is not the start marker and BUDGET is at least 2, the frame fed at the start of
an iteration, a byte at each of sixteen consecutive edges, gives the same READING. Streams with silent edges
between the bytes (70_reset_and_hazards.md R280) are left out. -/
def Obligations.EncodedFrameRoundTripsThroughStream : Prop :=
  ∀ (s : State) (f : ParsedFields), s.Fresh → f.Valid s.params →
    (dec s.params (reverseFrame f.wire)).IsReadingOf s.params f ∧
    parse (reverseFrame f.wire) = f ∧
    (f.d14 ≠ s.params.startMarker → 2 ≤ s.params.budget.toNat →
      ∀ (ins rest : List Inputs) (last : Inputs),
        s.upcoming = ins ++ last :: rest → (∀ i ∈ ins, i.offersByte) → last.rst = false →
        ins.map (·.inData) = f.wire.toList →
        ∃ t : State, Host.Core.run Sys2Proof.core 17 s = .next t ∧ t.fsm = .emit ∧
          t.res.IsReadingOf s.params f ∧ parse t.buf = f ∧ acceptedIn 17 s = f.wire.toList)

/-- 40_frame_synchronizer.md R115: until its result is handed over, an iteration accepts at most BUDGET + 14
bytes, whatever the environment does short of a reset. -/
def Obligations.IterationAcceptsBoundedBytes : Prop :=
  ∀ (n : Nat) (s : State), s.Fresh → noResetIn n s → handedIn n s = [] →
    (acceptedIn n s).length ≤ s.params.budget.toNat + 14

/-- 70_reset_and_hazards.md R280: under the source's liveness duty (an outcome at every edge), an iteration
reaches EMIT within BUDGET + 15 steps. -/
def Obligations.IterationEndsWhenSourceAnswers : Prop :=
  ∀ (s : State) (ins rest : List Inputs), s.Fresh → s.upcoming = ins ++ rest →
    (∀ i ∈ ins, i.givesOutcome) → ins.length = s.params.budget.toNat + 15 →
    ∃ (n : Nat) (t : State), n ≤ s.params.budget.toNat + 15 ∧
      Host.Core.run Sys2Proof.core n s = .next t ∧ t.fsm = .emit

/-- 44_frame_decoder_fsm.md R228 and 41_frame_reversal_buffer.md R139: two iterations that begin under the same
parameters and see the same port values go through the same states and capture the same result, whatever
the buffer, the result registers and `stop_req` held when they began. -/
def Obligations.ResultDoesNotDependOnEarlierIterations : Prop :=
  ∀ (n : Nat) (s s' t : State), s.Fresh → s'.Fresh → s'.params = s.params →
    s'.upcoming = s.upcoming → s'.cycle = s.cycle → handedIn n s = [] →
    Host.Core.run Sys2Proof.core n s = .next t →
    ∃ t' : State, Host.Core.run Sys2Proof.core n s' = .next t' ∧
      t'.fsm = t.fsm ∧ t'.budgetCnt = t.budgetCnt ∧ t'.colCnt = t.colCnt ∧
      (t.fsm = .emit → t'.res = t.res)

/-- 30_encoding.md R91, 20_memory.md R58 and R60: on the bench the core has accepted exactly the first bytes of
the source's list, in order, one for each advance of the pointer. -/
def Obligations.BenchConsumesSourceInOrder : Prop :=
  ∀ (st : Stimulus) (n : Nat) (b : Bench), Bench.runFor st n (Bench.begin st) = .next b →
    b.pointer ≤ st.bytes.length ∧ b.accepted = st.bytes.take b.pointer ∧ b.time = n
end

