-- ==== Sys2Proof/Laws/Decode.lean ====
section
/-! SUPPORT. The selector word and its fields: putting fields together and reading them gives them back,
so the operation a state selects is read off its registers and port values. -/

namespace Sys2Proof

/-- The codes of the FSM states read back (10_state.md R21). -/
@[simp] theorem Fsm.ofCode_code (f : Fsm) : Fsm.ofCode f.code = f := by cases f <;> rfl

/-- Every code is the code of its state: no code is reserved (10_state.md R21). -/
theorem Fsm.code_ofCode (c : BitVec 3) : (Fsm.ofCode c).code = c := by
  revert c
  decide

/-- The fields of a word put together from fields are those fields (30_encoding.md R80). -/
theorem opwFields_opwOfFields (f : OpwFields) : opwFields (opwOfFields f) = f := by
  obtain ⟨rst, st, v, m, tmo, ex, rdy, go, sp⟩ := f
  have hst : (opwOfFields ⟨rst, st, v, m, tmo, ex, rdy, go, sp⟩).extractLsb' 7 3 = st.code := by
    apply BitVec.eq_of_getLsbD_eq
    intro k hk
    have : k = 0 ∨ k = 1 ∨ k = 2 := by omega
    obtain rfl | rfl | rfl := this <;>
      simp [opwOfFields, BitVec.getLsbD_append, -BitVec.getLsbD_eq_getElem, -Nat.reduceAdd]
  simp only [opwFields, hst, Fsm.ofCode_code]
  simp [opwOfFields, BitVec.getLsbD_append, -BitVec.getLsbD_eq_getElem, -Nat.reduceAdd]

end Sys2Proof

namespace Sys2Proof.Machine

/-- The operation a state selects, by its registers and port values (30_encoding.md R80, R82). -/
theorem decode_opw (s : State) : decode s.opw = decodeFields s.selector := by
  unfold decode State.opw
  rw [opwFields_opwOfFields]

end Sys2Proof.Machine
end

