-- ==== Sys2Proof/Laws/State.lean ====
section
/-! SUPPORT. The small lemmas of State: one per field per named update, each true by rfl, so that no
later proof unfolds a record update; and the sample of a scripted edge. -/

namespace Sys2Proof.Machine

/-- The first scripted sample is the one of the coming edge. -/
@[simp] theorem State.sample_cons (s : State) (i : Inputs) (l : List Inputs) :
    State.sample { s with upcoming := i :: l } = i := rfl

/-- The sample of a state whose script is known to begin with `i`. -/
theorem State.sample_of_upcoming {s : State} {i : Inputs} {l : List Inputs}
    (h : s.upcoming = i :: l) : s.sample = i := by
  unfold State.sample
  rw [h]

/-! ### shiftIn -/

@[simp] theorem State.shiftIn_fsm (s : State) (b : Byte) :
    (s.shiftIn b).fsm = s.fsm := rfl
@[simp] theorem State.shiftIn_budgetCnt (s : State) (b : Byte) :
    (s.shiftIn b).budgetCnt = s.budgetCnt := rfl
@[simp] theorem State.shiftIn_colCnt (s : State) (b : Byte) :
    (s.shiftIn b).colCnt = s.colCnt := rfl
@[simp] theorem State.shiftIn_buf (s : State) (b : Byte) :
    (s.shiftIn b).buf = Machine.shiftIn b s.buf := rfl
@[simp] theorem State.shiftIn_stopReq (s : State) (b : Byte) :
    (s.shiftIn b).stopReq = s.stopReq := rfl
@[simp] theorem State.shiftIn_res (s : State) (b : Byte) :
    (s.shiftIn b).res = s.res := rfl
@[simp] theorem State.shiftIn_params (s : State) (b : Byte) :
    (s.shiftIn b).params = s.params := rfl
@[simp] theorem State.shiftIn_upcoming (s : State) (b : Byte) :
    (s.shiftIn b).upcoming = s.upcoming := rfl
@[simp] theorem State.shiftIn_cycle (s : State) (b : Byte) :
    (s.shiftIn b).cycle = s.cycle := rfl

/-! ### countByte -/

@[simp] theorem State.countByte_fsm (s : State) :
    (s.countByte).fsm = s.fsm := rfl
@[simp] theorem State.countByte_budgetCnt (s : State) :
    (s.countByte).budgetCnt = s.nextCount := rfl
@[simp] theorem State.countByte_colCnt (s : State) :
    (s.countByte).colCnt = s.colCnt := rfl
@[simp] theorem State.countByte_buf (s : State) :
    (s.countByte).buf = s.buf := rfl
@[simp] theorem State.countByte_stopReq (s : State) :
    (s.countByte).stopReq = s.stopReq := rfl
@[simp] theorem State.countByte_res (s : State) :
    (s.countByte).res = s.res := rfl
@[simp] theorem State.countByte_params (s : State) :
    (s.countByte).params = s.params := rfl
@[simp] theorem State.countByte_upcoming (s : State) :
    (s.countByte).upcoming = s.upcoming := rfl
@[simp] theorem State.countByte_cycle (s : State) :
    (s.countByte).cycle = s.cycle := rfl

/-! ### finish -/

@[simp] theorem State.finish_fsm (s : State) (r : Result) :
    (s.finish r).fsm = .emit := rfl
@[simp] theorem State.finish_budgetCnt (s : State) (r : Result) :
    (s.finish r).budgetCnt = s.budgetCnt := rfl
@[simp] theorem State.finish_colCnt (s : State) (r : Result) :
    (s.finish r).colCnt = s.colCnt := rfl
@[simp] theorem State.finish_buf (s : State) (r : Result) :
    (s.finish r).buf = s.buf := rfl
@[simp] theorem State.finish_stopReq (s : State) (r : Result) :
    (s.finish r).stopReq = s.stopReq := rfl
@[simp] theorem State.finish_res (s : State) (r : Result) :
    (s.finish r).res = r := rfl
@[simp] theorem State.finish_params (s : State) (r : Result) :
    (s.finish r).params = s.params := rfl
@[simp] theorem State.finish_upcoming (s : State) (r : Result) :
    (s.finish r).upcoming = s.upcoming := rfl
@[simp] theorem State.finish_cycle (s : State) (r : Result) :
    (s.finish r).cycle = s.cycle := rfl

/-! ### beginIteration -/

@[simp] theorem State.beginIteration_fsm (s : State) :
    (s.beginIteration).fsm = .seek := rfl
@[simp] theorem State.beginIteration_budgetCnt (s : State) :
    (s.beginIteration).budgetCnt = 0#8 := rfl
@[simp] theorem State.beginIteration_colCnt (s : State) :
    (s.beginIteration).colCnt = 0#5 := rfl
@[simp] theorem State.beginIteration_buf (s : State) :
    (s.beginIteration).buf = s.buf := rfl
@[simp] theorem State.beginIteration_stopReq (s : State) :
    (s.beginIteration).stopReq = s.stopReq := rfl
@[simp] theorem State.beginIteration_res (s : State) :
    (s.beginIteration).res = s.res := rfl
@[simp] theorem State.beginIteration_params (s : State) :
    (s.beginIteration).params = s.params := rfl
@[simp] theorem State.beginIteration_upcoming (s : State) :
    (s.beginIteration).upcoming = s.upcoming := rfl
@[simp] theorem State.beginIteration_cycle (s : State) :
    (s.beginIteration).cycle = s.cycle := rfl

/-! ### resetRegisters -/

@[simp] theorem State.resetRegisters_fsm (s : State) :
    (s.resetRegisters).fsm = .idle := rfl
@[simp] theorem State.resetRegisters_budgetCnt (s : State) :
    (s.resetRegisters).budgetCnt = 0#8 := rfl
@[simp] theorem State.resetRegisters_colCnt (s : State) :
    (s.resetRegisters).colCnt = 0#5 := rfl
@[simp] theorem State.resetRegisters_buf (s : State) :
    (s.resetRegisters).buf = #v[0#8, 0#8, 0#8, 0#8, 0#8, 0#8, 0#8, 0#8, 0#8, 0#8, 0#8, 0#8, 0#8, 0#8, 0#8, 0#8] := rfl
@[simp] theorem State.resetRegisters_stopReq (s : State) :
    (s.resetRegisters).stopReq = false := rfl
@[simp] theorem State.resetRegisters_res (s : State) :
    (s.resetRegisters).res = {} := rfl
@[simp] theorem State.resetRegisters_params (s : State) :
    (s.resetRegisters).params = s.params := rfl
@[simp] theorem State.resetRegisters_upcoming (s : State) :
    (s.resetRegisters).upcoming = s.upcoming := rfl
@[simp] theorem State.resetRegisters_cycle (s : State) :
    (s.resetRegisters).cycle = s.cycle := rfl

/-! ### clockEdge -/

@[simp] theorem State.clockEdge_fsm (s t : State) :
    (s.clockEdge t).fsm = t.fsm := rfl
@[simp] theorem State.clockEdge_budgetCnt (s t : State) :
    (s.clockEdge t).budgetCnt = t.budgetCnt := rfl
@[simp] theorem State.clockEdge_colCnt (s t : State) :
    (s.clockEdge t).colCnt = t.colCnt := rfl
@[simp] theorem State.clockEdge_buf (s t : State) :
    (s.clockEdge t).buf = t.buf := rfl
@[simp] theorem State.clockEdge_stopReq (s t : State) :
    (s.clockEdge t).stopReq = stopLatch s.sample t.stopReq := rfl
@[simp] theorem State.clockEdge_res (s t : State) :
    (s.clockEdge t).res = t.res := rfl
@[simp] theorem State.clockEdge_params (s t : State) :
    (s.clockEdge t).params = t.params := rfl
@[simp] theorem State.clockEdge_upcoming (s t : State) :
    (s.clockEdge t).upcoming = s.upcoming.tail := rfl
@[simp] theorem State.clockEdge_cycle (s t : State) :
    (s.clockEdge t).cycle = s.cycle + 1 := rfl

/-! ### presentOpw -/

@[simp] theorem State.presentOpw_fsm (s : State) (w : Opw) :
    (s.presentOpw w).fsm = Fsm.ofCode (w.extractLsb' 7 3) := rfl
@[simp] theorem State.presentOpw_budgetCnt (s : State) (w : Opw) :
    (s.presentOpw w).budgetCnt = s.budgetCnt := rfl
@[simp] theorem State.presentOpw_colCnt (s : State) (w : Opw) :
    (s.presentOpw w).colCnt = s.colCnt := rfl
@[simp] theorem State.presentOpw_buf (s : State) (w : Opw) :
    (s.presentOpw w).buf = s.buf := rfl
@[simp] theorem State.presentOpw_stopReq (s : State) (w : Opw) :
    (s.presentOpw w).stopReq = s.stopReq := rfl
@[simp] theorem State.presentOpw_res (s : State) (w : Opw) :
    (s.presentOpw w).res = s.res := rfl
@[simp] theorem State.presentOpw_params (s : State) (w : Opw) :
    (s.presentOpw w).params = s.params := rfl
@[simp] theorem State.presentOpw_upcoming (s : State) (w : Opw) :
    (s.presentOpw w).upcoming = inputsOfOpw s.params w :: s.upcoming.tail := rfl
@[simp] theorem State.presentOpw_cycle (s : State) (w : Opw) :
    (s.presentOpw w).cycle = s.cycle := rfl

/-! ### resetWith -/

@[simp] theorem State.resetWith_fsm (p : Params) :
    (State.resetWith p).fsm = .idle := rfl
@[simp] theorem State.resetWith_budgetCnt (p : Params) :
    (State.resetWith p).budgetCnt = 0#8 := rfl
@[simp] theorem State.resetWith_colCnt (p : Params) :
    (State.resetWith p).colCnt = 0#5 := rfl
@[simp] theorem State.resetWith_buf (p : Params) :
    (State.resetWith p).buf = #v[0#8, 0#8, 0#8, 0#8, 0#8, 0#8, 0#8, 0#8, 0#8, 0#8, 0#8, 0#8, 0#8, 0#8, 0#8, 0#8] := rfl
@[simp] theorem State.resetWith_stopReq (p : Params) :
    (State.resetWith p).stopReq = false := rfl
@[simp] theorem State.resetWith_res (p : Params) :
    (State.resetWith p).res = {} := rfl
@[simp] theorem State.resetWith_params (p : Params) :
    (State.resetWith p).params = p := rfl
@[simp] theorem State.resetWith_upcoming (p : Params) :
    (State.resetWith p).upcoming = [] := rfl
@[simp] theorem State.resetWith_cycle (p : Params) :
    (State.resetWith p).cycle = 0 := rfl

end Sys2Proof.Machine
end

