-- ==== Sys2Proof/Laws/Ops.lean ====
section
/-! SUPPORT. One lemma per shared operation that says once all it can do; later proofs cite it and do
not unfold the operation. -/

namespace Sys2Proof.Machine

/-- The byte just shifted in stands at 0 (41_frame_reversal_buffer.md R131). -/
@[simp] theorem shiftIn_zero (b : Byte) (v : Frame) : (shiftIn b v)[0] = b := rfl

/-- Every other byte came from one place below (41_frame_reversal_buffer.md R131). -/
theorem shiftIn_succ (b : Byte) (v : Frame) (k : Nat) (hk : k + 1 < 16) :
    (shiftIn b v)[k + 1] = v[k] := by
  have : k ∈ List.range 15 := by simpa using (by omega : k < 15)
  simp only [List.range, List.range.loop, List.mem_cons, List.not_mem_nil, or_false] at this
  rcases this with h | h | h | h | h | h | h | h | h | h | h | h | h | h | h <;> subst h <;> rfl

/-- A byte that only counts: either it leaves the budget unspent and only the count moves, or it spends
the budget and SYNC_TIMEOUT is captured (40_frame_synchronizer.md R101, R104). -/
theorem State.spendByte_cases (s : State) :
    (s.nextCount ≠ s.params.budget ∧ s.spendByte = { s with budgetCnt := s.nextCount }) ∨
    (s.nextCount = s.params.budget ∧
      s.spendByte = { s with budgetCnt := s.nextCount, res := Result.syncTimeout, fsm := .emit }) := by
  unfold State.spendByte State.budgetSpent
  by_cases h : s.nextCount = s.params.budget
  · exact .inr ⟨h, if_pos (beq_iff_eq.mpr h)⟩
  · exact .inl ⟨h, if_neg (fun hb => h (beq_iff_eq.mp hb))⟩

/-- Hand-over leads to DONE, to STOPPED or to a fresh iteration (44_frame_decoder_fsm.md R211). -/
theorem State.release_cases (s : State) :
    (s.res.kind = 6#3 ∧ s.release = { s with fsm := .done }) ∨
    (s.res.kind ≠ 6#3 ∧ (s.stopReq = true ∨ s.sample.stop = true) ∧
      s.release = { s with fsm := .stopped }) ∨
    (s.res.kind ≠ 6#3 ∧ s.stopReq = false ∧ s.sample.stop = false ∧
      s.release = { s with budgetCnt := 0#8, colCnt := 0#5, fsm := .seek }) := by
  unfold State.release
  by_cases hk : s.res.kind = 6#3
  · exact .inl ⟨hk, by simp [hk]⟩
  · cases hq : s.stopReq <;> cases hp : s.sample.stop <;>
      simp [hk, hq, State.beginIteration]

/-- The stop latch by cases of `rst` (44_frame_decoder_fsm.md R220). -/
theorem stopLatch_cases (i : Inputs) (q : Bool) :
    (i.rst = true ∧ stopLatch i q = q) ∨ (i.rst = false ∧ stopLatch i q = (q || i.stop)) := by
  unfold stopLatch
  cases h : i.rst <;> simp

/-- Some ROM entry equals the code exactly when LOOKUP hits (43_lookup_validator.md R181). -/
theorem romHit_iff (rom : Vector Code16 16) (c : Code16) :
    romHit rom c = true ↔ c ∈ rom := by
  unfold romHit romMatches
  simp [Vector.any_beq]

/-- DEC answers one of six results, each with the check that failed and those that passed before it
(43_lookup_validator.md R188). -/
theorem dec_cases (p : Params) (l : Frame) :
    (endOk p (parse l) = false ∧ dec p l = Result.terminatorMismatch 1#3 (parse l).endWord) ∨
    (endOk p (parse l) = true ∧ startOk p (parse l) = false ∧
      dec p l = Result.terminatorMismatch 2#3 (parse l).startWord) ∨
    (endOk p (parse l) = true ∧ startOk p (parse l) = true ∧ dpOk (parse l) = false ∧
      dec p l = Result.fieldRange 3#3 (parse l).dpRaw) ∨
    (endOk p (parse l) = true ∧ startOk p (parse l) = true ∧ dpOk (parse l) = true ∧
      annOk p (parse l) = false ∧ dec p l = Result.unknownCode (parse l).code16) ∨
    (endOk p (parse l) = true ∧ startOk p (parse l) = true ∧ dpOk (parse l) = true ∧
      annOk p (parse l) = true ∧ dispOk (parse l) = false ∧
      dec p l = Result.fieldRange 4#3 (parse l).dispRaw) ∨
    (endOk p (parse l) = true ∧ startOk p (parse l) = true ∧ dpOk (parse l) = true ∧
      annOk p (parse l) = true ∧ dispOk (parse l) = true ∧ dec p l = Result.reading p (parse l)) := by
  unfold dec
  cases endOk p (parse l) <;> cases startOk p (parse l) <;> cases dpOk (parse l) <;>
    cases annOk p (parse l) <;> cases dispOk (parse l) <;> simp

end Sys2Proof.Machine
end

