-- ==== Sys2Proof/Laws/PerInstr.lean ====
section
/-! SUPPORT. The per-operation family RowValueWithinMask: a row's match has no bit its mask does not look
at, and the word with every ignored bit 0 is the match itself (30_encoding.md R82). -/

namespace Sys2Proof.Laws

/-- What the family says of one operation. -/
def RowValueWithinMask.Statement (i : Instr) : Prop :=
  (opRow i).value &&& ~~~ (opRow i).mask = 0#11 ∧ encode i = (opRow i).value

theorem RowValueWithinMask.reset : RowValueWithinMask.Statement .reset := by
  unfold RowValueWithinMask.Statement
  decide
theorem RowValueWithinMask.idleWait : RowValueWithinMask.Statement .idleWait := by
  unfold RowValueWithinMask.Statement
  decide
theorem RowValueWithinMask.idleStart : RowValueWithinMask.Statement .idleStart := by
  unfold RowValueWithinMask.Statement
  decide
theorem RowValueWithinMask.idleStop : RowValueWithinMask.Statement .idleStop := by
  unfold RowValueWithinMask.Statement
  decide
theorem RowValueWithinMask.seekMark : RowValueWithinMask.Statement .seekMark := by
  unfold RowValueWithinMask.Statement
  decide
theorem RowValueWithinMask.seekOther : RowValueWithinMask.Statement .seekOther := by
  unfold RowValueWithinMask.Statement
  decide
theorem RowValueWithinMask.seekExhausted : RowValueWithinMask.Statement .seekExhausted := by
  unfold RowValueWithinMask.Statement
  decide
theorem RowValueWithinMask.seekTimeout : RowValueWithinMask.Statement .seekTimeout := by
  unfold RowValueWithinMask.Statement
  decide
theorem RowValueWithinMask.seekNone : RowValueWithinMask.Statement .seekNone := by
  unfold RowValueWithinMask.Statement
  decide
theorem RowValueWithinMask.skipMark : RowValueWithinMask.Statement .skipMark := by
  unfold RowValueWithinMask.Statement
  decide
theorem RowValueWithinMask.skipOther : RowValueWithinMask.Statement .skipOther := by
  unfold RowValueWithinMask.Statement
  decide
theorem RowValueWithinMask.skipExhausted : RowValueWithinMask.Statement .skipExhausted := by
  unfold RowValueWithinMask.Statement
  decide
theorem RowValueWithinMask.skipTimeout : RowValueWithinMask.Statement .skipTimeout := by
  unfold RowValueWithinMask.Statement
  decide
theorem RowValueWithinMask.skipNone : RowValueWithinMask.Statement .skipNone := by
  unfold RowValueWithinMask.Statement
  decide
theorem RowValueWithinMask.collectByte : RowValueWithinMask.Statement .collectByte := by
  unfold RowValueWithinMask.Statement
  decide
theorem RowValueWithinMask.collectExhausted : RowValueWithinMask.Statement .collectExhausted := by
  unfold RowValueWithinMask.Statement
  decide
theorem RowValueWithinMask.collectTimeout : RowValueWithinMask.Statement .collectTimeout := by
  unfold RowValueWithinMask.Statement
  decide
theorem RowValueWithinMask.collectNone : RowValueWithinMask.Statement .collectNone := by
  unfold RowValueWithinMask.Statement
  decide
theorem RowValueWithinMask.decodeFrame : RowValueWithinMask.Statement .decodeFrame := by
  unfold RowValueWithinMask.Statement
  decide
theorem RowValueWithinMask.emitHold : RowValueWithinMask.Statement .emitHold := by
  unfold RowValueWithinMask.Statement
  decide
theorem RowValueWithinMask.emitRelease : RowValueWithinMask.Statement .emitRelease := by
  unfold RowValueWithinMask.Statement
  decide
theorem RowValueWithinMask.stoppedHold : RowValueWithinMask.Statement .stoppedHold := by
  unfold RowValueWithinMask.Statement
  decide
theorem RowValueWithinMask.doneHold : RowValueWithinMask.Statement .doneHold := by
  unfold RowValueWithinMask.Statement
  decide

end Sys2Proof.Laws
end

