-- ==== Sys2Proof/Laws/Step.lean ====
section
/-! SUPPORT. What a step can do, said once, and each operation's meaning as an equation. -/

namespace Sys2Proof.Machine

/-- Inversion of a step: if it answers a next state, the parameters are legal, the selected operation
answered some state, and the edge was applied to that (44_frame_decoder_fsm.md R200). -/
theorem step_next_inv {s t : State} (h : step s = .next t) :
    s.params.wellFormed = true ∧
      ∃ u, exec (decodeFields s.selector) s = .next u ∧ t = s.clockEdge u := by
  unfold step at h
  rw [decode_opw] at h
  split at h
  · next hp =>
    refine ⟨hp, ?_⟩
    cases he : exec (decodeFields s.selector) s with
    | next u =>
      rw [he] at h
      exact ⟨u, rfl, by simpa [State.atEdge] using h.symm⟩
    | fault r => rw [he] at h; cases h
    | refused r => rw [he] at h; cases h
  · cases h

/-- One more step at the front of a run. -/
theorem run_succ_of_step {s t : State} (n : Nat) (h : step s = .next t) :
    Host.Core.run Sys2Proof.core (n + 1) s = Host.Core.run Sys2Proof.core n t := by
  have hc : Sys2Proof.core.step s = .next t := h
  simp only [Host.Core.run, hc]

/-! ### The meanings as equations -/

@[simp] theorem exec_reset (s : State) :
    exec .reset s = .next s.resetRegisters := rfl
@[simp] theorem exec_idleWait (s : State) :
    exec .idleWait s = .next s := rfl
@[simp] theorem exec_idleStart (s : State) :
    exec .idleStart s = .next s.beginIteration := rfl
@[simp] theorem exec_idleStop (s : State) :
    exec .idleStop s = .next { s with fsm := .stopped } := rfl
@[simp] theorem exec_seekMark (s : State) :
    exec .seekMark s = .next (if s.budgetSpent then s.countByte.finish Result.syncTimeout
      else { s.countByte.shiftIn s.params.startMarker with colCnt := 1#5, fsm := .skip }) := rfl
@[simp] theorem exec_seekOther (s : State) :
    exec .seekOther s = .next s.spendByte := rfl
@[simp] theorem exec_seekExhausted (s : State) :
    exec .seekExhausted s = .next (s.finish Result.sourceExhausted) := rfl
@[simp] theorem exec_seekTimeout (s : State) :
    exec .seekTimeout s = .next (s.finish Result.syncTimeout) := rfl
@[simp] theorem exec_seekNone (s : State) :
    exec .seekNone s = .next s := rfl
@[simp] theorem exec_skipMark (s : State) :
    exec .skipMark s = .next s.spendByte := rfl
@[simp] theorem exec_skipOther (s : State) :
    exec .skipOther s = .next { s.countByte.shiftIn s.sample.inData with colCnt := 2#5, fsm := .collect } := rfl
@[simp] theorem exec_skipExhausted (s : State) :
    exec .skipExhausted s = .next (s.finish Result.sourceExhausted) := rfl
@[simp] theorem exec_skipTimeout (s : State) :
    exec .skipTimeout s = .next (s.finish Result.syncTimeout) := rfl
@[simp] theorem exec_skipNone (s : State) :
    exec .skipNone s = .next s := rfl
@[simp] theorem exec_collectByte (s : State) :
    exec .collectByte s = .next { s.shiftIn s.sample.inData with
      colCnt := s.colCnt + 1#5
      fsm := if s.colCnt + 1#5 == 16#5 then .decode else s.fsm } := rfl
@[simp] theorem exec_collectExhausted (s : State) :
    exec .collectExhausted s = .next (s.finish Result.sourceExhausted) := rfl
@[simp] theorem exec_collectTimeout (s : State) :
    exec .collectTimeout s = .next (s.finish Result.syncTimeout) := rfl
@[simp] theorem exec_collectNone (s : State) :
    exec .collectNone s = .next s := rfl
@[simp] theorem exec_decodeFrame (s : State) :
    exec .decodeFrame s = .next (s.finish (dec s.params s.buf)) := rfl
@[simp] theorem exec_emitHold (s : State) :
    exec .emitHold s = .next s := rfl
@[simp] theorem exec_emitRelease (s : State) :
    exec .emitRelease s = .next s.release := rfl
@[simp] theorem exec_stoppedHold (s : State) :
    exec .stoppedHold s = .next s := rfl
@[simp] theorem exec_doneHold (s : State) :
    exec .doneHold s = .next s := rfl

end Sys2Proof.Machine
end

