-- ==== Sys2Proof/Tests/Slice0.lean ====
section
/-! SUPPORT. Our own tests, each expected value read from spec/ (the source is named in the docstring), and
for every obligation with hypotheses a concrete witness that meets them together. -/

namespace Sys2Proof.Tests

open Sys2Proof Sys2Proof.Machine

/-! ### Helpers -/

/-- Every input port at 0. -/
def quiet : Inputs :=
  { rst := false, start := false, stop := false, inValid := false, inData := 0#8, inTimeout := false
    inExhausted := false, outReady := false }

/-- The source offers the byte `b`, all else at 0. -/
def offer (b : Byte) : Inputs := { quiet with inValid := true, inData := b }

/-- A machine under the fixture's parameters (95_test_vectors.md section 1), with one edge scripted. -/
def machineAt (f : Fsm) (bc : BitVec 8) (cc : BitVec 5) (i : Inputs) : State :=
  { State.reset with fsm := f, budgetCnt := bc, colCnt := cc, upcoming := [i] }

/-- The state after one step, `none` where the step does not answer one. -/
def after (s : State) : Option State :=
  match step s with
  | .next t => some t
  | .fault _ => none
  | .refused _ => none

/-- FSM state, `budget_cnt`, `col_cnt` and `res_kind` after one step. -/
def brief (s : State) : Option (Fsm × Nat × Nat × Nat) :=
  (after s).map fun t => (t.fsm, t.budgetCnt.toNat, t.colCnt.toNat, t.res.kind.toNat)

/-- The reference frame V1 on the wire (95_test_vectors.md section 3.0). -/
def v1 : Frame :=
  #v[0x02#8, 0x30#8, 0x31#8, 0x42#8, 0x62#8, 0x30#8, 0x32#8, 0x30#8,
     0x31#8, 0x32#8, 0x33#8, 0x34#8, 0x35#8, 0x36#8, 0x37#8, 0x0D#8]

/-- V1's logical frame L[0..15] (95_test_vectors.md section 3.0). -/
def v1Logical : Frame :=
  #v[0x0D#8, 0x37#8, 0x36#8, 0x35#8, 0x34#8, 0x33#8, 0x32#8, 0x31#8,
     0x30#8, 0x32#8, 0x30#8, 0x62#8, 0x42#8, 0x31#8, 0x30#8, 0x02#8]

/-- V1's READING (95_test_vectors.md section 3.0). -/
def v1Reading : Result :=
  { kind := 1#3, digits := 0x3031323334353637#64, dp := 2#2, neg := false, disp := 1#3, annIdx := 1#4
    annCode := 0x4262#16, d14 := 0x30#8 }

/-! ### Well-formedness and refusals -/

/-- 92_eei_decisions.md D24: BUDGET 0 is no legal parameter. -/
theorem test_wellFormed_refuses_budget_0 :
    Params.wellFormed { Params.default with budget := 0#8 } = false := by decide

/-- 00_scope.md R6: the ends of the legal range of BUDGET. -/
theorem test_wellFormed_accepts_budget_1_and_255 :
    Params.wellFormed { Params.default with budget := 1#8 } = true ∧
    Params.wellFormed { Params.default with budget := 255#8 } = true := by decide

/-- 30_encoding.md R80: twelve bits are no OPW. -/
theorem test_wellFormed_refuses_twelve_bits :
    opwWellFormed 2048 = false ∧ opwWellFormed 2047 = true := by decide

/-- 30_encoding.md R80: the decoder refuses a number wider than OPW, by name. -/
theorem test_decode_refuses_twelve_bits :
    (match decodeWord 2048 with | .error .widerThanOpw => true | .ok _ => false) = true ∧
    decodeTableWord 16 2048 = none := by decide

/-- 30_encoding.md R82: no row has an operand, so no operation is ill formed. -/
theorem test_wellFormed_every_row :
    ([Instr.reset, .idleWait, .seekMark, .skipOther, .collectByte, .decodeFrame, .emitRelease,
      .doneHold].all Instr.wellFormed) = true := by decide

/-! ### Words written out from 30_encoding.md R82: rst, st, v, m, to, ex, rdy, go, sp -/

/-- 30_encoding.md R82. -/
theorem test_decode_reset :
    decode 0b11110110101#11 = .reset := by decide

/-- 30_encoding.md R82. -/
theorem test_decode_idleWait :
    decode 0b00001110100#11 = .idleWait := by decide

/-- 30_encoding.md R82. -/
theorem test_decode_idleStart :
    decode 0b00001100110#11 = .idleStart := by decide

/-- 30_encoding.md R82. -/
theorem test_decode_idleStop :
    decode 0b00000000011#11 = .idleStop := by decide

/-- 30_encoding.md R82. -/
theorem test_decode_seekMark :
    decode 0b00011111100#11 = .seekMark := by decide

/-- 30_encoding.md R82. -/
theorem test_decode_seekOther :
    decode 0b00011010000#11 = .seekOther := by decide

/-- 30_encoding.md R82. -/
theorem test_decode_seekExhausted :
    decode 0b00010011000#11 = .seekExhausted := by decide

/-- 30_encoding.md R82. -/
theorem test_decode_seekTimeout :
    decode 0b00010110000#11 = .seekTimeout := by decide

/-- 30_encoding.md R82. -/
theorem test_decode_seekNone :
    decode 0b00010100000#11 = .seekNone := by decide

/-- 30_encoding.md R82. -/
theorem test_decode_skipMark :
    decode 0b00101101111#11 = .skipMark := by decide

/-- 30_encoding.md R82. -/
theorem test_decode_skipOther :
    decode 0b00101000000#11 = .skipOther := by decide

/-- 30_encoding.md R82. -/
theorem test_decode_skipExhausted :
    decode 0b00100111000#11 = .skipExhausted := by decide

/-- 30_encoding.md R82. -/
theorem test_decode_skipTimeout :
    decode 0b00100010001#11 = .skipTimeout := by decide

/-- 30_encoding.md R82. -/
theorem test_decode_skipNone :
    decode 0b00100000000#11 = .skipNone := by decide

/-- 30_encoding.md R82. -/
theorem test_decode_collectByte :
    decode 0b00111000100#11 = .collectByte := by decide

/-- 30_encoding.md R82. -/
theorem test_decode_collectExhausted :
    decode 0b00110001100#11 = .collectExhausted := by decide

/-- 30_encoding.md R82. -/
theorem test_decode_collectTimeout :
    decode 0b00110010101#11 = .collectTimeout := by decide

/-- 30_encoding.md R82. -/
theorem test_decode_collectNone :
    decode 0b00110100110#11 = .collectNone := by decide

/-- 30_encoding.md R82. -/
theorem test_decode_decodeFrame :
    decode 0b01001100100#11 = .decodeFrame := by decide

/-- 30_encoding.md R82. -/
theorem test_decode_emitHold :
    decode 0b01011100000#11 = .emitHold := by decide

/-- 30_encoding.md R82. -/
theorem test_decode_emitRelease :
    decode 0b01010010100#11 = .emitRelease := by decide

/-- 30_encoding.md R82. -/
theorem test_decode_stoppedHold :
    decode 0b01100010100#11 = .stoppedHold := by decide

/-- 30_encoding.md R82. -/
theorem test_decode_doneHold :
    decode 0b01110001100#11 = .doneHold := by decide

/-! ### One step of each operation -/

/-- 70_reset_and_hazards.md R270, example: the offered byte is not consumed. -/
theorem test_step_reset :
    brief (machineAt .collect 5#8 9#5 { offer 0x41#8 with rst := true }) = some (.idle, 0, 0, 0) ∧
    (machineAt .collect 5#8 9#5 { offer 0x41#8 with rst := true }).acceptedByte = none := by decide

/-- 44_frame_decoder_fsm.md R202, example. -/
theorem test_step_idleWait :
    brief (machineAt .idle 0#8 0#5 quiet) = some (.idle, 0, 0, 0) := by decide

/-- 44_frame_decoder_fsm.md R201, example. -/
theorem test_step_idleStart :
    brief (machineAt .idle 0#8 0#5 { quiet with start := true }) = some (.seek, 0, 0, 0) := by decide

/-- 44_frame_decoder_fsm.md R203, example: stop wins over start, and is latched. -/
theorem test_step_idleStop :
    (after (machineAt .idle 0#8 0#5 { quiet with start := true, stop := true })).map
      (fun t => (t.fsm, t.stopReq)) = some (.stopped, true) := by decide

/-- 95_test_vectors.md K6 (40_frame_synchronizer.md R102, example). -/
theorem test_step_seekMark_K6 :
    (machineAt .seek 5#8 0#5 (offer 0x02#8)).opw = 0x0E0#11 ∧
    (after (machineAt .seek 5#8 0#5 (offer 0x02#8))).map
      (fun t => (t.fsm, t.budgetCnt, t.colCnt, t.buf[0])) = some (.skip, 6#8, 1#5, 0x02#8) := by decide

/-- 95_test_vectors.md K5. -/
theorem test_step_seekMark_K5 :
    brief (machineAt .seek 31#8 0#5 (offer 0x02#8)) = some (.emit, 32, 0, 2) := by decide

/-- 95_test_vectors.md K1: a byte wins over a timeout. -/
theorem test_step_seekOther_K1 :
    (machineAt .seek 3#8 0#5 { offer 0x41#8 with inTimeout := true }).opw = 0x0D0#11 ∧
    brief (machineAt .seek 3#8 0#5 { offer 0x41#8 with inTimeout := true }) = some (.seek, 4, 0, 0) := by decide

/-- 40_frame_synchronizer.md R103, example. -/
theorem test_step_seekOther_budget :
    brief (machineAt .seek 31#8 0#5 (offer 0x41#8)) = some (.emit, 32, 0, 2) := by decide

/-- 95_test_vectors.md K2: exhaustion wins over a timeout. -/
theorem test_step_seekExhausted_K2 :
    (machineAt .seek 3#8 0#5 { quiet with inTimeout := true, inExhausted := true }).opw = 0x098#11 ∧
    brief (machineAt .seek 3#8 0#5 { quiet with inTimeout := true, inExhausted := true })
      = some (.emit, 3, 0, 6) := by decide

/-- 40_frame_synchronizer.md R106, example. -/
theorem test_step_seekTimeout :
    brief (machineAt .seek 3#8 0#5 { quiet with inTimeout := true }) = some (.emit, 3, 0, 2) := by decide

/-- 95_test_vectors.md K7: in_data ignored while in_valid = 0. -/
theorem test_step_seekNone_K7 :
    (machineAt .seek 0#8 0#5 { quiet with inData := 0x02#8 }).opw = 0x0A0#11 ∧
    brief (machineAt .seek 0#8 0#5 { quiet with inData := 0x02#8 }) = some (.seek, 0, 0, 0) := by decide

/-- 95_test_vectors.md K4. -/
theorem test_step_skipMark_K4 :
    brief (machineAt .skip 31#8 1#5 (offer 0x02#8)) = some (.emit, 32, 1, 2) := by decide

/-- 40_frame_synchronizer.md R108, example: buf unchanged. -/
theorem test_step_skipMark :
    (after (machineAt .skip 7#8 1#5 (offer 0x02#8))).map
      (fun t => (t.fsm, t.budgetCnt, t.buf)) = some (.skip, 8#8, State.reset.buf) := by decide

/-- 95_test_vectors.md K3 and 40_frame_synchronizer.md R109, example. -/
theorem test_step_skipOther_K3 :
    (after { machineAt .skip 31#8 1#5 (offer 0x30#8) with
        buf := shiftIn 0x02#8 State.reset.buf }).map
      (fun t => (t.fsm, t.budgetCnt, t.colCnt, t.buf[0], t.buf[1]))
      = some (.collect, 32#8, 2#5, 0x30#8, 0x02#8) := by decide

/-- 40_frame_synchronizer.md R110, example. -/
theorem test_step_skipExhausted :
    brief (machineAt .skip 4#8 1#5 { quiet with inExhausted := true, inTimeout := true })
      = some (.emit, 4, 1, 6) := by decide

/-- 40_frame_synchronizer.md R111, example. -/
theorem test_step_skipTimeout :
    brief (machineAt .skip 4#8 1#5 { quiet with inTimeout := true }) = some (.emit, 4, 1, 2) := by decide

/-- 95_test_vectors.md K8. -/
theorem test_step_skipNone_K8 :
    brief (machineAt .skip 4#8 1#5 quiet) = some (.skip, 4, 1, 0) := by decide

/-- 41_frame_reversal_buffer.md R134, example. -/
theorem test_step_collectByte_sixteenth :
    (after (machineAt .collect 2#8 15#5 (offer 0x0D#8))).map
      (fun t => (t.fsm, t.budgetCnt, t.colCnt, t.buf[0])) = some (.decode, 2#8, 16#5, 0x0D#8) := by decide

/-- 41_frame_reversal_buffer.md R140: a start marker is content. -/
theorem test_step_collectByte_marker :
    brief (machineAt .collect 32#8 2#5 (offer 0x02#8)) = some (.collect, 32, 3, 0) := by decide

/-- 41_frame_reversal_buffer.md R135, example. -/
theorem test_step_collectExhausted :
    brief (machineAt .collect 2#8 9#5 { quiet with inExhausted := true }) = some (.emit, 2, 9, 6) := by decide

/-- 41_frame_reversal_buffer.md R137, example. -/
theorem test_step_collectTimeout :
    brief (machineAt .collect 2#8 4#5 { quiet with inTimeout := true }) = some (.emit, 2, 4, 2) := by decide

/-- 41_frame_reversal_buffer.md R138, example. -/
theorem test_step_collectNone :
    brief (machineAt .collect 2#8 4#5 quiet) = some (.collect, 2, 4, 0) := by decide

/-- 44_frame_decoder_fsm.md R204, example, on V1. -/
theorem test_step_decode_v1 :
    (after { machineAt .decode 2#8 16#5 quiet with buf := v1Logical }).map
      (fun t => (t.fsm, t.res)) = some (.emit, v1Reading) := by decide

/-- 95_test_vectors.md S19: the end marker replaced by 0A. -/
theorem test_step_decode_end_word :
    (after { machineAt .decode 2#8 16#5 quiet with buf := v1Logical.set 0 0x0A#8 }).map
      (fun t => t.res) = some { kind := 3#3, errField := 1#3, errValue := 0x000A#16 } := by decide

/-- 44_frame_decoder_fsm.md R210, example; a stop is only latched. -/
theorem test_step_emitHold :
    (after { machineAt .emit 2#8 16#5 { quiet with stop := true } with res := v1Reading }).map
      (fun t => (t.fsm, t.res, t.stopReq)) = some (.emit, v1Reading, true) := by decide

/-- 44_frame_decoder_fsm.md R211, example. -/
theorem test_step_emitRelease :
    (after { machineAt .emit 2#8 16#5 { quiet with outReady := true } with res := { kind := 3#3 } }).map
      (fun t => (t.fsm, t.budgetCnt, t.colCnt, t.res.kind)) = some (.seek, 0#8, 0#5, 3#3) := by decide

/-- 60_exceptions.md R248 item 7: exhaustion leads to DONE even if a stop was seen. -/
theorem test_step_emitRelease_exhausted :
    (after { machineAt .emit 2#8 0#5 { quiet with outReady := true, stop := true } with
        res := { kind := 6#3 } }).map (fun t => t.fsm) = some .done := by decide

/-- 44_frame_decoder_fsm.md R213, example. -/
theorem test_step_stoppedHold :
    brief (machineAt .stopped 4#8 16#5 { quiet with start := true }) = some (.stopped, 4, 16, 0) := by decide

/-- 44_frame_decoder_fsm.md R214, example. -/
theorem test_step_doneHold :
    brief (machineAt .done 2#8 0#5 { offer 0x41#8 with start := true }) = some (.done, 2, 0, 0) ∧
    (machineAt .done 2#8 0#5 { offer 0x41#8 with start := true }).acceptedByte = none := by decide

/-- The interface: the word of SEEK.MARK runs as the first operation after reset (40_frame_synchronizer.md R102). -/
theorem test_withFetchWord_seekMark :
    brief (State.reset.withFetchWord 16 0b00011100000) = some (.skip, 1, 1, 0) := by decide

/-! ### The decoder and the consumer -/

/-- 42_field_parser.md R165 and 95_test_vectors.md section 3.0. -/
theorem test_reverse_v1 :
    reverseFrame v1 = v1Logical ∧ (parse v1Logical).wire = v1 := by decide

/-- 95_test_vectors.md D3: a wrong start word, DEC only. -/
theorem test_dec_D3 :
    dec Params.default (v1Logical.set 15 0x03#8)
      = { kind := 3#3, errField := 2#3, errValue := 0x0003#16 } := by decide

/-- 43_lookup_validator.md R185: the binary byte 3 is no decimal point. -/
theorem test_dec_binary_decimal_point :
    dec Params.default (v1Logical.set 9 0x03#8)
      = { kind := 4#3, errField := 3#3, errValue := 0x0003#16 } := by decide

/-- 43_lookup_validator.md R182: the comparison is order-sensitive. -/
theorem test_dec_swapped_code :
    dec Params.default ((v1Logical.set 11 0x42#8).set 12 0x62#8)
      = { kind := 5#3, errField := 5#3, errValue := 0x6242#16 } := by decide

/-- 43_lookup_validator.md R187: '5' fails. -/
theorem test_dec_display_id_5 :
    dec Params.default (v1Logical.set 13 0x35#8)
      = { kind := 4#3, errField := 4#3, errValue := 0x0035#16 } := by decide

/-- 43_lookup_validator.md R182: the lowest of the repeated codes. -/
theorem test_lookup_repeated :
    romIndex (Params.fixtureCodes.set 9 0x4464#16) 0x4464#16 = 3#4 ∧
    romIndex Params.fixtureCodes 0x5070#16 = 15#4 := by decide

/-- 95_test_vectors.md F3 and F6. -/
theorem test_fmt :
    v1Reading.fmt = [0x30#8, 0x31#8, 0x32#8, 0x33#8, 0x34#8, 0x35#8, 0x2E#8, 0x36#8, 0x37#8] ∧
    Result.fmt { v1Reading with dp := 3#2, neg := true }
      = [0x2D#8, 0x30#8, 0x31#8, 0x32#8, 0x33#8, 0x34#8, 0x2E#8, 0x35#8, 0x36#8, 0x37#8] := by decide

/-- 42_field_parser.md R154: the binary byte 0 is negative. -/
theorem test_polarity_binary_zero :
    (dec Params.default (v1Logical.set 10 0x00#8)).neg = true := by decide

/-- 30_encoding.md R87 and 93_implementation_defined.md I6, I21: what a consumer treats as a fault. -/
theorem test_consumer_faults :
    (match Result.receive { kind := 7#3 } with | .error .reservedKind => true | _ => false) = true ∧
    (match Result.receive { kind := 1#3, errField := 6#3 } with
      | .error .reservedErrorField => true | _ => false) = true ∧
    (match Result.receive { kind := 0#3 } with | .error .noResult => true | _ => false) = true ∧
    (match Result.receive { kind := 3#3, errField := 2#3 } with
      | .error .startWordReported => true | _ => false) = true := by decide

/-- 42_field_parser.md R168: the accessors of V1. -/
theorem test_reading_accessors :
    (v1Reading.toReading (Vector.replicate 16 "V")).unit = "V" ∧
    (v1Reading.toReading (Vector.replicate 16 "V")).channel = 1#3 := by decide

/-! ### Witnesses: for each obligation with hypotheses, states and operands that meet them all -/

/-- A machine in `f` with `col_cnt` 0 and nothing counted. -/
def idleAt (f : Fsm) (i : Inputs) : State := machineAt f 0#8 0#5 i

/-- Every operation is well formed. -/
theorem test_witness_DecodeOfEncodeIsIdentity :
    Instr.doneHold.wellFormed = true := by decide

/-- The row of SEEK.MARK at the two ends of its ignored bits. -/
theorem test_witness_EveryWordMatchesExactlyOneRow :
    rowMatches .seekMark 0x0E0#11 = true ∧ rowMatches .seekMark 0x0FF#11 = true := by decide

/-- SKIP.OTHER, in the step of vector K3. -/
theorem test_witness_StepRunsDecodedOperation :
    (machineAt .skip 31#8 1#5 (offer 0x30#8)).params.wellFormed = true ∧
    decode (machineAt .skip 31#8 1#5 (offer 0x30#8)).opw = .skipOther ∧
    Instr.skipOther.wellFormed = true ∧
    exec .skipOther (machineAt .skip 31#8 1#5 (offer 0x30#8)) = .next
      { machineAt .collect 32#8 2#5 (offer 0x30#8) with buf := shiftIn 0x30#8 State.reset.buf } := 
  ⟨by decide, by decide, rfl, rfl⟩

/-- BUDGET 0. -/
theorem test_witness_IllegalBudgetIsRefused :
    (State.resetWith { Params.default with budget := 0#8 }).params.budget = 0#8 := rfl

/-- The three clauses: a stop, no stop with one latched before, a reset step with a stop. -/
theorem test_witness_StopIsLatchedInEveryState :
    (step (idleAt .decode { quiet with stop := true }) = .next
        { idleAt .emit quiet with
          res := { kind := 3#3, errField := 1#3 }, stopReq := true, upcoming := [], cycle := 1 } ∧
      (idleAt .decode { quiet with stop := true }).sample.rst = false ∧
      (idleAt .decode { quiet with stop := true }).sample.stop = true) ∧
    (step { idleAt .stopped quiet with stopReq := true } = .next
        { idleAt .stopped quiet with stopReq := true, upcoming := [], cycle := 1 } ∧
      (idleAt .stopped quiet).sample.rst = false ∧ (idleAt .stopped quiet).sample.stop = false) ∧
    (step (idleAt .seek { quiet with rst := true, stop := true }) = .next
        { State.reset with cycle := 1 } ∧
      (idleAt .seek { quiet with rst := true, stop := true }).sample.rst = true) := 
  ⟨⟨rfl, rfl, rfl⟩, ⟨rfl, rfl, rfl⟩, rfl, rfl⟩

/-- Pairs of different port values that agree where they are sampled: in a reset step, in IDLE, in SEEK with and
without a byte, and in EMIT. -/
theorem test_witness_UnsampledInputsHaveNoEffect :
    (∃ i j : Inputs, i ≠ j ∧ i.rst = j.rst ∧ i.rst = true) ∧
    (∃ i j : Inputs, i ≠ j ∧ i.rst = j.rst ∧ i.stop = j.stop ∧ i.start = j.start ∧
      (idleAt .idle i).inReady = false ∧ (idleAt .idle i).fsm ≠ .emit) ∧
    (∃ i j : Inputs, i ≠ j ∧ i.rst = j.rst ∧ i.stop = j.stop ∧ (idleAt .seek i).inReady = true ∧
      i.inValid = j.inValid ∧ i.inValid = true ∧ i.inData = j.inData) ∧
    (∃ i j : Inputs, i ≠ j ∧ i.rst = j.rst ∧ i.stop = j.stop ∧ (idleAt .seek i).inReady = true ∧
      i.inValid = j.inValid ∧ i.inValid = false ∧ i.inTimeout = j.inTimeout ∧
      i.inExhausted = j.inExhausted) ∧
    (∃ i j : Inputs, i ≠ j ∧ i.rst = j.rst ∧ i.stop = j.stop ∧ (idleAt .emit i).inReady = false ∧
      i.outReady = j.outReady) := 
  ⟨⟨{ quiet with rst := true }, { offer 0x02#8 with rst := true, stop := true }, by decide⟩,
   ⟨quiet, { offer 0x02#8 with outReady := true, inTimeout := true }, by decide⟩,
   ⟨offer 0x41#8, { offer 0x41#8 with inTimeout := true, start := true, outReady := true }, by decide⟩,
   ⟨quiet, { quiet with inData := 0x02#8, start := true, outReady := true }, by decide⟩,
   ⟨quiet, { offer 0x02#8 with inTimeout := true, inExhausted := true, start := true }, by decide⟩⟩

/-- A step of SEEK.NONE. -/
theorem test_witness_ParametersNeverChange :
    step (idleAt .seek quiet) = .next { idleAt .seek quiet with upcoming := [], cycle := 1 } := rfl

/-- Both cases: the state after reset, and a step with `rst` = 1 in the middle of a frame. -/
theorem test_witness_ResetStateValues :
    (∃ p : Params, State.reset = State.resetWith p) ∧
    (machineAt .collect 5#8 9#5 { offer 0x41#8 with rst := true }).sample.rst = true ∧
    step (machineAt .collect 5#8 9#5 { offer 0x41#8 with rst := true }) = .next
      { State.reset with cycle := 1 } := ⟨⟨_, rfl⟩, rfl, rfl⟩

/-- A reset step in EMIT with the sink ready. -/
theorem test_witness_ResetStepWritesEveryRegister :
    (machineAt .emit 5#8 9#5 { quiet with rst := true, outReady := true }).params.wellFormed = true ∧
    (machineAt .emit 5#8 9#5 { quiet with rst := true, outReady := true }).sample.rst = true := by decide

/-- The byte that spends the budget (n = 32) and the one before it. -/
theorem test_witness_SeekMarkKeepsOneMarker :
    let s := fun n : BitVec 8 => machineAt .seek n 0#5 (offer 0x02#8)
    ∀ n ∈ [31#8, 30#8], (s n).params.wellFormed = true ∧ (s n).fsm = .seek ∧
      (s n).sample.rst = false ∧ (s n).sample.inValid = true ∧
      (s n).sample.inData = (s n).params.startMarker ∧ (s n).budgetCnt.toNat < 255 ∧
      (((s n).budgetCnt + 1#8 = (s n).params.budget) ↔ n = 31#8) := by decide

/-- The byte that spends the budget (n = 32) and the one before it. -/
theorem test_witness_SeekOtherDiscardsByte :
    let s := fun n : BitVec 8 => machineAt .seek n 0#5 (offer 0x41#8)
    ∀ n ∈ [31#8, 30#8], (s n).params.wellFormed = true ∧ (s n).fsm = .seek ∧
      (s n).sample.rst = false ∧ (s n).sample.inValid = true ∧
      (s n).sample.inData ≠ (s n).params.startMarker ∧ (s n).budgetCnt.toNat < 255 ∧
      (((s n).budgetCnt + 1#8 = (s n).params.budget) ↔ n = 31#8) := by decide

/-- The byte that spends the budget (n = 32) and the one before it. -/
theorem test_witness_SkipMarkSkipsDuplicate :
    let s := fun n : BitVec 8 => machineAt .skip n 1#5 (offer 0x02#8)
    ∀ n ∈ [31#8, 30#8], (s n).params.wellFormed = true ∧ (s n).fsm = .skip ∧
      (s n).sample.rst = false ∧ (s n).sample.inValid = true ∧
      (s n).sample.inData = (s n).params.startMarker ∧ (s n).budgetCnt.toNat < 255 ∧
      (((s n).budgetCnt + 1#8 = (s n).params.budget) ↔ n = 31#8) := by decide

/-- The byte that spends the budget (n = 32) and the one before it. -/
theorem test_witness_SkipOtherKeepsFirstContentByte :
    let s := fun n : BitVec 8 => machineAt .skip n 1#5 (offer 0x41#8)
    ∀ n ∈ [31#8, 30#8], (s n).params.wellFormed = true ∧ (s n).fsm = .skip ∧
      (s n).sample.rst = false ∧ (s n).sample.inValid = true ∧
      (s n).sample.inData ≠ (s n).params.startMarker ∧ (s n).budgetCnt.toNat < 255 ∧
      (((s n).budgetCnt + 1#8 = (s n).params.budget) ↔ n = 31#8) := by decide

/-- The sixteenth byte and the fifteenth. -/
theorem test_witness_CollectByteFillsBuffer :
    let s := fun n : BitVec 5 => machineAt .collect 2#8 n (offer 0x02#8)
    ∀ n ∈ [15#5, 14#5], (s n).params.wellFormed = true ∧ (s n).fsm = .collect ∧
      (s n).sample.rst = false ∧ (s n).sample.inValid = true ∧ (s n).colCnt.toNat < 31 ∧
      ((s n).colCnt.toNat + 1 = 16 ↔ n = 15#5) := by decide

/-- Exhaustion with a timeout beside it, in each of the three states. -/
theorem test_witness_ExhaustionEndsIteration :
    let s := fun f => idleAt f { quiet with inExhausted := true, inTimeout := true }
    ∀ f ∈ [Fsm.seek, Fsm.skip, Fsm.collect],
      (s f).params.wellFormed = true ∧ (s f).fsm = f ∧ (s f).sample.rst = false ∧
      (s f).sample.inValid = false ∧ (s f).sample.inExhausted = true := by decide

/-- A timeout in each of the three states. -/
theorem test_witness_TimeoutEndsIteration :
    let s := fun f => idleAt f { quiet with inTimeout := true }
    ∀ f ∈ [Fsm.seek, Fsm.skip, Fsm.collect],
      (s f).params.wellFormed = true ∧ (s f).fsm = f ∧ (s f).sample.rst = false ∧
      (s f).sample.inValid = false ∧ (s f).sample.inExhausted = false ∧ (s f).sample.inTimeout = true := by decide

/-- No outcome in each of the three states. -/
theorem test_witness_NoOutcomeWaits :
    let s := fun f => idleAt f quiet
    ∀ f ∈ [Fsm.seek, Fsm.skip, Fsm.collect],
      (s f).params.wellFormed = true ∧ (s f).fsm = f ∧ (s f).sample.rst = false ∧
      (s f).sample.inValid = false ∧ (s f).sample.inExhausted = false ∧ (s f).sample.inTimeout = false := by decide

/-- A start without a stop. -/
theorem test_witness_StartBeginsIteration :
    (idleAt .idle { quiet with start := true }).params.wellFormed = true ∧
    (idleAt .idle { quiet with start := true }).fsm = .idle ∧
    (idleAt .idle { quiet with start := true }).sample.rst = false ∧
    (idleAt .idle { quiet with start := true }).sample.start = true ∧
    (idleAt .idle { quiet with start := true }).sample.stop = false := by decide

/-- A start and a stop together. -/
theorem test_witness_StopInIdleWins :
    (idleAt .idle { quiet with start := true, stop := true }).params.wellFormed = true ∧
    (idleAt .idle { quiet with start := true, stop := true }).fsm = .idle ∧
    (idleAt .idle { quiet with start := true, stop := true }).sample.rst = false ∧
    (idleAt .idle { quiet with start := true, stop := true }).sample.stop = true := by decide

/-- Each of the four states. -/
theorem test_witness_HoldOperationsChangeNothing :
    ∀ f ∈ [Fsm.idle, Fsm.emit, Fsm.stopped, Fsm.done],
      (idleAt f quiet).params.wellFormed = true ∧ (idleAt f quiet).fsm = f ∧
      (idleAt f quiet).sample.rst = false ∧ (idleAt f quiet).sample.start = false ∧
      (idleAt f quiet).sample.stop = false ∧ (idleAt f quiet).sample.outReady = false := by decide

/-- A machine in DECODE. -/
theorem test_witness_DecodeCapturesDecOfBuffer :
    (idleAt .decode quiet).params.wellFormed = true ∧ (idleAt .decode quiet).fsm = .decode ∧
    (idleAt .decode quiet).sample.rst = false := by decide

/-- The three ways on: exhaustion, a stop in this very cycle or one latched, and neither. -/
theorem test_witness_ReleaseHandsOverAndGoesOn :
    let s := fun (k : BitVec 3) (q p : Bool) =>
      { idleAt .emit { quiet with outReady := true, stop := p } with res := { kind := k }, stopReq := q }
    (∀ k ∈ [6#3, 2#3], ∀ q ∈ [false, true], ∀ p ∈ [false, true],
      (s k q p).params.wellFormed = true ∧ (s k q p).fsm = .emit ∧ (s k q p).sample.rst = false ∧
      (s k q p).sample.outReady = true) ∧
    (s 6#3 true true).res.kind = 6#3 ∧
    ((s 2#3 true false).res.kind ≠ 6#3 ∧ (s 2#3 true false).stopReq = true) ∧
    ((s 2#3 false true).res.kind ≠ 6#3 ∧ (s 2#3 false true).sample.stop = true) ∧
    ((s 2#3 false false).res.kind ≠ 6#3 ∧ (s 2#3 false false).stopReq = false ∧
      (s 2#3 false false).sample.stop = false) := by decide

/-- SEEK at the last byte of the budget, and a reset step. -/
theorem test_witness_TransitionTable :
    (machineAt .seek 31#8 0#5 (offer 0x02#8)).RowInv ∧
    (machineAt .seek 31#8 0#5 (offer 0x02#8)).sample.rst = false ∧
    step (machineAt .seek 31#8 0#5 (offer 0x02#8)) = .next
      { machineAt .emit 32#8 0#5 quiet with res := { kind := 2#3 }, upcoming := [], cycle := 1 } ∧
    (machineAt .seek 31#8 0#5 { quiet with rst := true }).RowInv ∧
    (machineAt .seek 31#8 0#5 { quiet with rst := true }).sample.rst = true ∧
    step (machineAt .seek 31#8 0#5 { quiet with rst := true }) = .next { State.reset with cycle := 1 } := 
  ⟨⟨by decide, rfl⟩, rfl, rfl, ⟨by decide, rfl⟩, rfl, rfl⟩

/-- The three clauses: into STOPPED from IDLE, into DONE, and on to the next iteration. -/
theorem test_witness_OnlyStopOrExhaustionEndsLoop :
    let s := fun (k : BitVec 3) => { idleAt .emit { quiet with outReady := true } with res := { kind := k } }
    (step (idleAt .idle { quiet with stop := true }) = .next
        { idleAt .stopped quiet with stopReq := true, upcoming := [], cycle := 1 } ∧
      (idleAt .idle { quiet with stop := true }).sample.rst = false ∧
      (idleAt .idle { quiet with stop := true }).fsm ≠ .stopped) ∧
    (step (s 6#3) = .next { s 6#3 with fsm := .done, upcoming := [], cycle := 1 } ∧
      (s 6#3).sample.rst = false ∧ (s 6#3).fsm ≠ .done) ∧
    (step (s 2#3) = .next { s 2#3 with fsm := .seek, upcoming := [], cycle := 1 } ∧
      (s 2#3).sample.rst = false ∧ (s 2#3).handedOver = some (s 2#3).res ∧ (s 2#3).res.kind ≠ 6#3 ∧
      (s 2#3).stopReq = false ∧ (s 2#3).sample.stop = false) := 
  ⟨⟨rfl, rfl, by decide⟩, ⟨rfl, rfl, by decide⟩, rfl, rfl, rfl, by decide, rfl, rfl⟩

/-- A stalled sink with a stop. -/
theorem test_witness_HeldResultIsNeverOverwritten :
    step (idleAt .emit { quiet with stop := true }) = .next
      { idleAt .emit quiet with stopReq := true, upcoming := [], cycle := 1 } ∧
    (idleAt .emit { quiet with stop := true }).sample.rst = false ∧
    (idleAt .emit { quiet with stop := true }).fsm = .emit ∧
    (idleAt .emit { quiet with stop := true }).sample.outReady = false := ⟨rfl, rfl, rfl, rfl⟩

/-- A timeout in COLLECT. -/
theorem test_witness_ResultChangesOnlyOnCapture :
    step (idleAt .collect { quiet with inTimeout := true }) = .next
      { idleAt .emit quiet with res := { kind := 2#3 }, upcoming := [], cycle := 1 } ∧
    (idleAt .collect { quiet with inTimeout := true }).sample.rst = false ∧
    ({ kind := 2#3 } : Result) ≠ (idleAt .collect quiet).res := ⟨rfl, rfl, by decide⟩

/-- SEEK.MARK writes the buffer. -/
theorem test_witness_BufferWrittenOnlyByShiftIn :
    step (machineAt .seek 5#8 0#5 (offer 0x02#8)) = .next
      { machineAt .skip 6#8 1#5 quiet with
        buf := shiftIn 0x02#8 State.reset.buf, upcoming := [], cycle := 1 } ∧
    (machineAt .seek 5#8 0#5 (offer 0x02#8)).sample.rst = false := ⟨rfl, rfl⟩

/-- A code in the ROM with an entry before it, and one that is not in the ROM. -/
theorem test_witness_LookupGivesLowestIndex :
    romHit Params.fixtureCodes 0x4262#16 = true ∧
    (0 : Fin 16).val < (romIndex Params.fixtureCodes 0x4262#16).toNat ∧
    romHit Params.fixtureCodes 0x5171#16 = false := by decide

/-- Each of the six cases; the decimal point and the display id at both edges of their ranges. -/
theorem test_witness_DecReportsFirstFailedCheck :
    let p := Params.default
    (v1Logical.set 0 0x0A#8)[0] ≠ p.endMarker ∧
    ((v1Logical.set 15 0x03#8)[0] = p.endMarker ∧ (v1Logical.set 15 0x03#8)[15] ≠ p.startMarker) ∧
    (v1Logical[0] = p.endMarker ∧ v1Logical[15] = p.startMarker) ∧
    (∀ b ∈ [0x2F#8, 0x34#8], ¬ (0x30 ≤ b.toNat ∧ b.toNat ≤ 0x33)) ∧
    (∀ b ∈ [0x30#8, 0x33#8], 0x30 ≤ b.toNat ∧ b.toNat ≤ 0x33) ∧
    (∀ i : Fin 16, p.annCode[i] ≠ 0x62#8 ++ 0x42#8) ∧
    (∃ i : Fin 16, p.annCode[i] = v1Logical[12] ++ v1Logical[11]) ∧
    (∀ b ∈ [0x30#8, 0x35#8], ¬ (0x31 ≤ b.toNat ∧ b.toNat ≤ 0x34)) ∧
    (∀ b ∈ [0x31#8, 0x34#8], 0x31 ≤ b.toNat ∧ b.toNat ≤ 0x34) := by decide

/-- A frame that is no READING. -/
theorem test_witness_NoFabricatedReading :
    (dec Params.default (v1Logical.set 0 0x0A#8)).kind ≠ 1#3 := by decide

/-- V1's record. -/
def v1Fields : ParsedFields := parse v1Logical

/-- V1's record is valid under the fixture (42_field_parser.md R167). -/
theorem v1Fields_valid : v1Fields.Valid Params.default :=
  ⟨by decide, by decide, by decide, ⟨1, by decide⟩, by decide⟩

/-- V1. -/
theorem test_witness_DecodeOfEncodedFieldsIsReading :
    v1Fields.Valid Params.default := v1Fields_valid

/-- V1, and each decimal point and sign. -/
theorem test_witness_FormatterPlacesSignAndSeparator :
    v1Reading.digits = 0x30#8 ++ 0x31#8 ++ 0x32#8 ++ 0x33#8 ++ 0x34#8 ++ 0x35#8 ++ 0x36#8 ++ 0x37#8 ∧
    ∀ d ∈ [0#2, 1#2, 2#2, 3#2], ∀ g ∈ [false, true],
      Result.digits { v1Reading with dp := d, neg := g } = v1Reading.digits ∧
      Result.dp { v1Reading with dp := d, neg := g } = d ∧
      Result.neg { v1Reading with dp := d, neg := g } = g := by decide

/-- The last byte of a frame. -/
theorem test_witness_EveryStepKeepsRowInvariant :
    ({ machineAt .collect 2#8 15#5 (offer 0x0D#8) with buf := v1Logical.set 14 0x02#8 } : State).RowInv ∧
    step { machineAt .collect 2#8 15#5 (offer 0x0D#8) with buf := v1Logical.set 14 0x02#8 } = .next
      { machineAt .decode 2#8 16#5 quiet with
        buf := shiftIn 0x0D#8 (v1Logical.set 14 0x02#8), upcoming := [], cycle := 1 } := 
  ⟨⟨by decide, by decide, by decide, by decide, by decide⟩, rfl⟩

/-- The capture of V1. -/
theorem test_witness_EveryStepKeepsResultsLegal :
    ({ machineAt .decode 2#8 16#5 quiet with buf := v1Logical } : State).RowInv ∧
    ({ machineAt .decode 2#8 16#5 quiet with buf := v1Logical } : State).ResultInv ∧
    step { machineAt .decode 2#8 16#5 quiet with buf := v1Logical } = .next
      { machineAt .emit 2#8 16#5 quiet with
        buf := v1Logical, res := v1Reading, upcoming := [], cycle := 1 } := 
  ⟨⟨by decide, by decide, rfl, rfl⟩, ⟨Or.inl rfl, fun h => nomatch h⟩, rfl⟩

/-- A held READING and a ready sink: the result is handed over in one step. -/
theorem test_witness_ConsumerNeverFindsFault :
    let s : State := { machineAt .emit 2#8 16#5 { quiet with outReady := true } with res := v1Reading }
    s.RowInv ∧ s.ResultInv ∧ v1Reading ∈ handedIn 1 s := 
  ⟨⟨by decide, by decide⟩,
   ⟨.inr (.inr (.inr (.inr (.inr (.inr (.inr ⟨rfl, by decide, by decide, rfl, rfl, rfl⟩)))))),
    fun _ => by decide⟩,
   by decide⟩

/-- A fresh iteration under BUDGET `n`, the port values `l` scripted. -/
def fresh (n : BitVec 8) (l : List Inputs) : State :=
  { State.resetWith { Params.default with budget := n } with fsm := .seek, upcoming := l }

/-- A discarded byte, a marker, a duplicate and the first content byte, with BUDGET exactly 4. -/
theorem test_witness_SynchronizationSucceeds :
    let ins := [offer 0x41#8, offer 0x02#8, offer 0x02#8, offer 0x30#8]
    (fresh 4#8 (ins ++ [quiet])).Fresh ∧ (fresh 4#8 (ins ++ [quiet])).upcoming = ins ++ [quiet] ∧
    (∀ i ∈ ins, i.offersByte) ∧
    ins.map (·.inData) = [0x41#8] ++ List.replicate (1 + 1) 0x02#8 ++ [0x30#8] ∧
    0x02#8 ∉ [0x41#8] ∧ 0x30#8 ≠ 0x02#8 ∧ ins.length ≤ (fresh 4#8 (ins ++ [quiet])).params.budget.toNat := 
  ⟨⟨rfl, rfl, rfl, rfl⟩, rfl, by simp [Inputs.offersByte, offer, quiet], rfl, by decide, by decide, by decide⟩

/-- BUDGET 1 spent by a marker, and BUDGET 2 by bytes of which none is a marker. -/
theorem test_witness_SynchronizationTimesOutAtBudget :
    (let ins := [offer 0x02#8];
      (fresh 1#8 ins).Fresh ∧ (fresh 1#8 ins).upcoming = ins ++ [] ∧ (∀ i ∈ ins, i.offersByte) ∧
      ins.map (·.inData) = [] ++ List.replicate 1 0x02#8 ∧ 0x02#8 ∉ ([] : List Byte) ∧
      ins.length = (fresh 1#8 ins).params.budget.toNat) ∧
    (let ins := [offer 0x41#8, offer 0x0D#8];
      (fresh 2#8 ins).Fresh ∧ (fresh 2#8 ins).upcoming = ins ++ [] ∧ (∀ i ∈ ins, i.offersByte) ∧
      ins.map (·.inData) = [0x41#8, 0x0D#8] ++ List.replicate 0 0x02#8 ∧ 0x02#8 ∉ [0x41#8, 0x0D#8] ∧
      ins.length = (fresh 2#8 ins).params.budget.toNat) := 
  ⟨⟨⟨rfl, rfl, rfl, rfl⟩, rfl, by simp [Inputs.offersByte, offer, quiet], rfl, by decide, by decide⟩,
   ⟨rfl, rfl, rfl, rfl⟩, rfl, by simp [Inputs.offersByte, offer, quiet], rfl, by decide, by decide⟩

/-- V1 offered edge by edge. -/
def v1Offers : List Inputs := v1.toList.map offer

/-- Every edge of `v1Offers` offers a byte. -/
theorem v1Offers_offer : ∀ i ∈ v1Offers, i.offersByte := by
  intro i hi
  obtain ⟨b, _, rfl⟩ := List.mem_map.mp hi
  exact ⟨rfl, rfl⟩

/-- V1 with BUDGET 2, the smallest that receives a frame. -/
theorem test_witness_AlignedFrameIsDecoded :
    let s := fresh 2#8 (v1Offers ++ quiet :: [])
    s.Fresh ∧ 2 ≤ s.params.budget.toNat ∧ s.upcoming = v1Offers ++ quiet :: [] ∧
    (∀ i ∈ v1Offers, i.offersByte) ∧ quiet.rst = false ∧ v1Offers.map (·.inData) = v1.toList ∧
    v1[0] = s.params.startMarker ∧ v1[1] ≠ s.params.startMarker := 
  ⟨⟨rfl, rfl, rfl, rfl⟩, by decide, rfl, v1Offers_offer, rfl, rfl, rfl, by decide⟩

/-- V1 with BUDGET 2. -/
theorem test_witness_EncodedFrameRoundTripsThroughStream :
    let s := fresh 2#8 (v1Offers ++ quiet :: [])
    s.Fresh ∧ v1Fields.Valid s.params ∧ v1Fields.d14 ≠ s.params.startMarker ∧
    2 ≤ s.params.budget.toNat ∧ s.upcoming = v1Offers ++ quiet :: [] ∧
    (∀ i ∈ v1Offers, i.offersByte) ∧ quiet.rst = false ∧
    v1Offers.map (·.inData) = v1Fields.wire.toList := 
  ⟨⟨rfl, rfl, rfl, rfl⟩, v1Fields_valid, by decide, by decide, rfl, v1Offers_offer, rfl, rfl⟩

/-- One byte accepted, no reset and nothing handed over. -/
theorem test_witness_IterationAcceptsBoundedBytes :
    let s := fresh 32#8 [offer 0x41#8]
    s.Fresh ∧ noResetIn 1 s ∧ handedIn 1 s = [] ∧ acceptedIn 1 s = [0x41#8] := 
  ⟨⟨rfl, rfl, rfl, rfl⟩, ⟨rfl, fun _ _ => trivial⟩, rfl, rfl⟩

/-- BUDGET 1 and sixteen edges with a timeout. -/
theorem test_witness_IterationEndsWhenSourceAnswers :
    let ins := List.replicate 16 { quiet with inTimeout := true }
    (fresh 1#8 ins).Fresh ∧ (fresh 1#8 ins).upcoming = ins ++ [] ∧ (∀ i ∈ ins, i.givesOutcome) ∧
    ins.length = (fresh 1#8 ins).params.budget.toNat + 15 := 
  ⟨⟨rfl, rfl, rfl, rfl⟩, rfl, fun _ hi => (List.eq_of_mem_replicate hi) ▸ ⟨rfl, .inr (.inl rfl)⟩, rfl⟩

/-- Two iterations that begin with another buffer, result and stop request, and end by a timeout. -/
theorem test_witness_ResultDoesNotDependOnEarlierIterations :
    let s := fresh 32#8 [{ quiet with inTimeout := true }]
    let s' := { s with buf := v1Logical, res := v1Reading, stopReq := true }
    s.Fresh ∧ s'.Fresh ∧ s'.params = s.params ∧ s'.upcoming = s.upcoming ∧ s'.cycle = s.cycle ∧
    handedIn 1 s = [] ∧ Host.Core.run Sys2Proof.core 1 s = .next
      { s with res := { kind := 2#3 }, fsm := .emit, upcoming := [], cycle := 1 } := 
  ⟨⟨rfl, rfl, rfl, rfl⟩, ⟨rfl, rfl, rfl, rfl⟩, rfl, rfl, rfl, rfl, rfl⟩

/-- A start and one byte, three cycles of the bench (30_encoding.md R90, R91). -/
theorem test_witness_BenchConsumesSourceInOrder :
    let st := Stimulus.ofLines [.reset, .start 1, .source [0x41#8, 0x02#8]]
    (match Bench.runFor st 3 (Bench.begin st) with
      | .next b => decide (b.pointer = 1 ∧ b.accepted = [0x41#8] ∧ b.time = 3)
      | .fault _ => false
      | .refused _ => false) = true := by decide

end Sys2Proof.Tests
end

section
/-! PROOFS. The legal parameters of 00_scope.md R6 and the refusal of the others. -/

namespace Sys2Proof.Machine

/-- Only BUDGET can make the parameters illegal, and 0 is its only illegal value (00_scope.md R6). -/
theorem Params.wellFormed_eq_false_iff (p : Params) : p.wellFormed = false ↔ p.budget = 0#8 := by
  simp [Params.wellFormed]

/-- The refusing branch of a step: no edge is taken with illegal parameters
(93_implementation_defined.md I12). -/
theorem step_of_not_wellFormed {s : State} (h : s.params.wellFormed = false) :
    step s = .refused .illegalBudget := by
  simp [step, h]

/-- Settles O8: BUDGET 0 makes the parameters illegal, and the step's guard refuses these. -/
theorem illegalBudgetIsRefused : Obligations.IllegalBudgetIsRefused := by
  intro s hbudget
  have hillegal : s.params.wellFormed = false := (Params.wellFormed_eq_false_iff s.params).mpr hbudget
  exact step_of_not_wellFormed hillegal

end Sys2Proof.Machine
end

section
/-! PROOFS. What the coming edge selects: the read outcome it samples, and for each operation the
registers and port values under which it is the one (30_encoding.md R81, R82). -/

namespace Sys2Proof.Machine

/-- The read outcome at the coming edge (30_encoding.md R81). -/
def State.outcome (s : State) : ReadOutcome :=
  readOutcome s.sample.inValid s.markerSeen s.sample.inExhausted s.sample.inTimeout

/-- A byte is read exactly when the source offers one, be it the marker or another. -/
theorem State.outcome_byte_iff (s : State) :
    s.outcome = .mark ∨ s.outcome = .other ↔ s.sample.inValid = true := by
  unfold State.outcome readOutcome
  cases s.sample.inValid with
  | true => cases s.markerSeen <;> simp
  | false => cases s.sample.inExhausted <;> cases s.sample.inTimeout <;> simp

/-- When the coming edge selects an operation: the rows of the operation map (30_encoding.md R82), in
the machine's own registers and port values. -/
def State.Selects (s : State) : Instr → Prop
  | .reset => s.sample.rst = true
  | .idleWait =>
    s.sample.rst = false ∧ s.fsm = .idle ∧ s.sample.stop = false ∧ s.sample.start = false
  | .idleStart =>
    s.sample.rst = false ∧ s.fsm = .idle ∧ s.sample.stop = false ∧ s.sample.start = true
  | .idleStop => s.sample.rst = false ∧ s.fsm = .idle ∧ s.sample.stop = true
  | .seekMark => s.sample.rst = false ∧ s.fsm = .seek ∧ s.outcome = .mark
  | .seekOther => s.sample.rst = false ∧ s.fsm = .seek ∧ s.outcome = .other
  | .seekExhausted => s.sample.rst = false ∧ s.fsm = .seek ∧ s.outcome = .exhausted
  | .seekTimeout => s.sample.rst = false ∧ s.fsm = .seek ∧ s.outcome = .timeout
  | .seekNone => s.sample.rst = false ∧ s.fsm = .seek ∧ s.outcome = .none
  | .skipMark => s.sample.rst = false ∧ s.fsm = .skip ∧ s.outcome = .mark
  | .skipOther => s.sample.rst = false ∧ s.fsm = .skip ∧ s.outcome = .other
  | .skipExhausted => s.sample.rst = false ∧ s.fsm = .skip ∧ s.outcome = .exhausted
  | .skipTimeout => s.sample.rst = false ∧ s.fsm = .skip ∧ s.outcome = .timeout
  | .skipNone => s.sample.rst = false ∧ s.fsm = .skip ∧ s.outcome = .none
  | .collectByte =>
    s.sample.rst = false ∧ s.fsm = .collect ∧ (s.outcome = .mark ∨ s.outcome = .other)
  | .collectExhausted => s.sample.rst = false ∧ s.fsm = .collect ∧ s.outcome = .exhausted
  | .collectTimeout => s.sample.rst = false ∧ s.fsm = .collect ∧ s.outcome = .timeout
  | .collectNone => s.sample.rst = false ∧ s.fsm = .collect ∧ s.outcome = .none
  | .decodeFrame => s.sample.rst = false ∧ s.fsm = .decode
  | .emitHold => s.sample.rst = false ∧ s.fsm = .emit ∧ s.sample.outReady = false
  | .emitRelease => s.sample.rst = false ∧ s.fsm = .emit ∧ s.sample.outReady = true
  | .stoppedHold => s.sample.rst = false ∧ s.fsm = .stopped
  | .doneHold => s.sample.rst = false ∧ s.fsm = .done

/-- The row of the decoded operation is met. -/
theorem State.selects_decode (s : State) : s.Selects (decode s.opw) := by
  rw [decode_opw]
  unfold decodeFields State.selector
  rw [← State.outcome]
  cases hrst : s.sample.rst with
  | true => exact hrst
  | false =>
    cases hfsm : s.fsm with
    | idle =>
      cases hstop : s.sample.stop <;> cases hstart : s.sample.start <;>
        simp [State.Selects, hrst, hfsm, hstop, hstart]
    | seek | skip | collect =>
      cases hout : s.outcome <;> simp [State.Selects, hrst, hfsm, hout]
    | emit => cases hrdy : s.sample.outReady <;> simp [State.Selects, hrst, hfsm, hrdy]
    | decode | stopped | done => simp [State.Selects, hrst, hfsm]

/-- No two operations share a row: under one operation's row, that operation is decoded. -/
theorem State.decode_of_selects {s : State} {i : Instr} (h : s.Selects i) : decode s.opw = i := by
  rw [decode_opw]
  unfold decodeFields State.selector
  rw [← State.outcome]
  cases i <;> simp_all [State.Selects]
  case collectByte => obtain ⟨-, -, hout | hout⟩ := h <;> rw [hout]

/-- The decoder says which operation is selected, by its row (30_encoding.md R82, R83). -/
theorem State.decode_opw_eq_iff {s : State} {i : Instr} : decode s.opw = i ↔ s.Selects i :=
  ⟨fun h => h ▸ s.selects_decode, State.decode_of_selects⟩

/-- Inversion of a step by the selected operation: its row is met, and the step is that operation's
answer taken through the edge (44_frame_decoder_fsm.md R200). -/
theorem step_next_selects {s t : State} (h : step s = .next t) :
    s.params.wellFormed = true ∧
      ∃ i u, s.Selects i ∧ exec i s = .next u ∧ t = s.clockEdge u := by
  obtain ⟨hp, u, hexec, ht⟩ := step_next_inv h
  rw [← decode_opw] at hexec
  exact ⟨hp, _, u, s.selects_decode, hexec, ht⟩

end Sys2Proof.Machine
end

section
/-! PROOFS. The rows of the reachable-state table (10_state.md R43): what each row gives, what the shared
operations need to establish one, and that every step leads from row to row. -/

namespace Sys2Proof.Machine

/-! ### The counters -/

/-- Both counters stand in the range that every row of 10_state.md R43 allows. -/
def State.CountersInRange (s : State) : Prop :=
  s.budgetCnt.toNat ≤ s.params.budget.toNat ∧ s.colCnt.toNat ≤ 16

/-- Legal parameters have a budget to spend (00_scope.md R6). -/
theorem Params.budget_pos {p : Params} (h : p.wellFormed = true) : 0 < p.budget.toNat := by
  simp only [Params.wellFormed, bne_iff_ne] at h
  bv_omega

/-- Below the budget the byte count does not wrap (40_frame_synchronizer.md R101, 00_scope.md R13). -/
theorem State.nextCount_toNat {s : State} (h : s.budgetCnt.toNat < s.params.budget.toNat) :
    s.nextCount.toNat = s.budgetCnt.toNat + 1 := by
  unfold State.nextCount
  bv_omega

/-- A byte that does not spend the budget leaves some of it (40_frame_synchronizer.md R104). -/
theorem State.nextCount_lt_budget {s : State} (h : s.budgetCnt.toNat < s.params.budget.toNat)
    (hne : s.nextCount ≠ s.params.budget) : s.nextCount.toNat < s.params.budget.toNat := by
  have hnext := State.nextCount_toNat h
  bv_omega

/-! ### What each row gives -/

theorem State.RowInv.of_idle {s : State} (h : s.RowInv) (hfsm : s.fsm = .idle) :
    s.budgetCnt = 0#8 ∧ s.colCnt = 0#5 ∧ (∀ k : Fin 16, s.buf[k] = 0#8) ∧ s.stopReq = false := by
  simpa only [State.RowInv, hfsm] using h

theorem State.RowInv.of_seek {s : State} (h : s.RowInv) (hfsm : s.fsm = .seek) :
    s.budgetCnt.toNat < s.params.budget.toNat ∧ s.colCnt = 0#5 := by
  simpa only [State.RowInv, hfsm] using h

theorem State.RowInv.of_skip {s : State} (h : s.RowInv) (hfsm : s.fsm = .skip) :
    1 ≤ s.budgetCnt.toNat ∧ s.budgetCnt.toNat < s.params.budget.toNat ∧ s.colCnt = 1#5 ∧
      s.buf[0] = s.params.startMarker := by
  simpa only [State.RowInv, hfsm] using h

theorem State.RowInv.of_collect {s : State} (h : s.RowInv) (hfsm : s.fsm = .collect) :
    2 ≤ s.budgetCnt.toNat ∧ s.budgetCnt.toNat ≤ s.params.budget.toNat ∧
      2 ≤ s.colCnt.toNat ∧ s.colCnt.toNat ≤ 15 ∧
      (∀ k : Fin 16, k.val + 1 = s.colCnt.toNat → s.buf[k] = s.params.startMarker) := by
  simpa only [State.RowInv, hfsm] using h

theorem State.RowInv.of_decode {s : State} (h : s.RowInv) (hfsm : s.fsm = .decode) :
    2 ≤ s.budgetCnt.toNat ∧ s.budgetCnt.toNat ≤ s.params.budget.toNat ∧
      s.colCnt = 16#5 ∧ s.buf[15] = s.params.startMarker := by
  simpa only [State.RowInv, hfsm] using h

/-- Every row keeps both counters in range. -/
theorem State.RowInv.countersInRange {s : State} (h : s.RowInv) : s.CountersInRange := by
  unfold State.CountersInRange
  cases hfsm : s.fsm with
  | idle =>
    obtain ⟨hbudget, hcol, -, -⟩ := h.of_idle hfsm
    simp [hbudget, hcol]
  | seek =>
    obtain ⟨hbudget, hcol⟩ := h.of_seek hfsm
    exact ⟨hbudget.le, by simp [hcol]⟩
  | skip =>
    obtain ⟨-, hbudget, hcol, -⟩ := h.of_skip hfsm
    exact ⟨hbudget.le, by simp [hcol]⟩
  | collect =>
    obtain ⟨-, hbudget, -, hcol, -⟩ := h.of_collect hfsm
    exact ⟨hbudget, by omega⟩
  | decode =>
    obtain ⟨-, hbudget, hcol, -⟩ := h.of_decode hfsm
    exact ⟨hbudget, by simp [hcol]⟩
  | emit | stopped | done => rwa [State.RowInv, hfsm] at h

/-- The rows of EMIT, STOPPED and DONE ask for the counters' ranges only. -/
theorem State.CountersInRange.rowInv {s : State} (h : s.CountersInRange)
    (hfsm : s.fsm = .emit ∨ s.fsm = .stopped ∨ s.fsm = .done) : s.RowInv := by
  rcases hfsm with hfsm | hfsm | hfsm <;>
    simpa only [State.RowInv, hfsm, State.CountersInRange] using h

/-! ### The shared operations -/

/-- Every byte of the buffer is 0x00 after reset (10_state.md R42). -/
theorem resetBuffer_getElem :
    ∀ k : Fin 16, (#v[0#8, 0#8, 0#8, 0#8, 0#8, 0#8, 0#8, 0#8, 0#8, 0#8, 0#8, 0#8, 0#8, 0#8, 0#8, 0#8]
      : Frame)[k] = 0#8 := by
  decide

/-- A shift moves the byte at `j` one place up (41_frame_reversal_buffer.md R131). -/
theorem shiftIn_getElem_next (b : Byte) (v : Frame) {j k : Fin 16} (h : k.val = j.val + 1) :
    (shiftIn b v)[k] = v[j] := by
  obtain ⟨k, hk⟩ := k
  obtain rfl : k = j.val + 1 := h
  exact shiftIn_succ b v j.val hk

theorem State.resetRegisters_rowInv (s : State) : s.resetRegisters.RowInv :=
  ⟨rfl, rfl, resetBuffer_getElem, rfl⟩

theorem State.beginIteration_rowInv {s : State} (hp : s.params.wellFormed = true) :
    s.beginIteration.RowInv :=
  ⟨Params.budget_pos hp, rfl⟩

/-- Capture needs nothing of the row it leaves but the counters' ranges. -/
theorem State.CountersInRange.finish_rowInv {s : State} (h : s.CountersInRange) (r : Result) :
    (s.finish r).RowInv :=
  State.CountersInRange.rowInv h (.inl rfl)

/-- Counting a byte below the budget stays in range, so a capture after it meets its row. -/
theorem State.countByte_finish_rowInv {s : State} (h : s.RowInv)
    (hbudget : s.budgetCnt.toNat < s.params.budget.toNat) (r : Result) :
    (s.countByte.finish r).RowInv := by
  obtain ⟨-, hcol⟩ := h.countersInRange
  have hnext := State.nextCount_toNat hbudget
  exact State.CountersInRange.finish_rowInv (s := s.countByte)
    ⟨by simp only [State.countByte_budgetCnt, State.countByte_params]; omega, hcol⟩ r

/-- A byte that only counts keeps the row of SEEK or SKIP, or leads to that of EMIT. -/
theorem State.spendByte_rowInv {s : State} (h : s.RowInv) (hfsm : s.fsm = .seek ∨ s.fsm = .skip) :
    s.spendByte.RowInv := by
  have hbudget : s.budgetCnt.toNat < s.params.budget.toNat := by
    rcases hfsm with hfsm | hfsm
    · obtain ⟨hbudget, -⟩ := h.of_seek hfsm
      exact hbudget
    · obtain ⟨-, hbudget, -, -⟩ := h.of_skip hfsm
      exact hbudget
  rcases s.spendByte_cases with ⟨hne, hspend⟩ | ⟨-, hspend⟩
  · have hlt := State.nextCount_lt_budget hbudget hne
    rw [hspend]
    rcases hfsm with hfsm | hfsm
    · obtain ⟨-, hcol⟩ := h.of_seek hfsm
      simpa only [State.RowInv, hfsm] using ⟨hlt, hcol⟩
    · obtain ⟨-, -, hcol, hmark⟩ := h.of_skip hfsm
      have hnext := State.nextCount_toNat hbudget
      simpa only [State.RowInv, hfsm] using ⟨by omega, hlt, hcol, hmark⟩
  · rw [hspend]
    exact State.countByte_finish_rowInv h hbudget Result.syncTimeout

theorem State.release_rowInv {s : State} (hp : s.params.wellFormed = true) (h : s.RowInv) :
    s.release.RowInv := by
  rcases s.release_cases with ⟨-, hrel⟩ | ⟨-, -, hrel⟩ | ⟨-, -, -, hrel⟩ <;> rw [hrel]
  · exact State.CountersInRange.rowInv h.countersInRange (.inr (.inr rfl))
  · exact State.CountersInRange.rowInv h.countersInRange (.inr (.inl rfl))
  · exact State.beginIteration_rowInv hp

/-- The edge keeps the row of the state an operation led to, if it does not latch a stop in IDLE. -/
theorem State.RowInv.clockEdge {s u : State} (h : u.RowInv)
    (hstop : u.fsm = .idle → stopLatch s.sample u.stopReq = u.stopReq) :
    (s.clockEdge u).RowInv := by
  cases hfsm : u.fsm with
  | idle => simpa only [State.RowInv, State.clockEdge, hfsm, hstop hfsm] using h
  | seek | skip | collect | decode | emit | stopped | done =>
    simpa only [State.RowInv, State.clockEdge, hfsm] using h

/-! ### The operations that keep a byte -/

/-- SEEK.MARK leads to the row of EMIT, or with the marker kept at 0 to that of SKIP
(40_frame_synchronizer.md R102). -/
theorem exec_seekMark_rowInv {s u : State} (h : s.RowInv) (hfsm : s.fsm = .seek)
    (hexec : exec .seekMark s = .next u) : u.RowInv := by
  obtain ⟨hbudget, -⟩ := h.of_seek hfsm
  rw [exec_seekMark, Host.Outcome.next.injEq] at hexec
  subst hexec
  split
  · exact State.countByte_finish_rowInv h hbudget Result.syncTimeout
  · next hspent =>
    have hlt : s.nextCount.toNat < s.params.budget.toNat :=
      State.nextCount_lt_budget hbudget (by simpa [State.budgetSpent] using hspent)
    have hnext := State.nextCount_toNat hbudget
    have hpos : 1 ≤ s.nextCount.toNat := by omega
    exact ⟨hpos, hlt, rfl, shiftIn_zero _ _⟩

/-- SKIP.OTHER moves the marker from 0 to 1 and leads to the row of COLLECT
(40_frame_synchronizer.md R109). -/
theorem exec_skipOther_rowInv {s u : State} (h : s.RowInv) (hfsm : s.fsm = .skip)
    (hexec : exec .skipOther s = .next u) : u.RowInv := by
  obtain ⟨hpos, hbudget, -, hmark⟩ := h.of_skip hfsm
  rw [exec_skipOther, Host.Outcome.next.injEq] at hexec
  subst hexec
  have hnext := State.nextCount_toNat hbudget
  have htwo : 2 ≤ s.nextCount.toNat := by omega
  have hle : s.nextCount.toNat ≤ s.params.budget.toNat := by omega
  have hmoved : ∀ k : Fin 16, k.val + 1 = 2 →
      (shiftIn s.sample.inData s.buf)[k] = s.params.startMarker := fun k hk =>
    (shiftIn_getElem_next s.sample.inData s.buf (j := 0) (Nat.succ.inj hk)).trans hmark
  exact ⟨htwo, hle, Nat.le_refl 2, by simp, hmoved⟩

/-- COLLECT.BYTE moves the marker up with the count, to the row of COLLECT or, when it arrives at 15, to
that of DECODE (41_frame_reversal_buffer.md R134). -/
theorem exec_collectByte_rowInv {s u : State} (h : s.RowInv) (hfsm : s.fsm = .collect)
    (hexec : exec .collectByte s = .next u) : u.RowInv := by
  obtain ⟨htwo, hbudget, hcol, hcol', hmark⟩ := h.of_collect hfsm
  rw [exec_collectByte, Host.Outcome.next.injEq] at hexec
  subst hexec
  have hnext : (s.colCnt + 1#5).toNat = s.colCnt.toNat + 1 := by bv_omega
  have hmoved : ∀ k : Fin 16, k.val = s.colCnt.toNat →
      (shiftIn s.sample.inData s.buf)[k] = s.params.startMarker := by
    intro k hk
    obtain ⟨j, hj⟩ : ∃ j : Fin 16, k.val = j.val + 1 :=
      ⟨⟨k.val - 1, by omega⟩, by dsimp only; omega⟩
    exact (shiftIn_getElem_next s.sample.inData s.buf hj).trans (hmark j (by omega))
  by_cases hlast : s.colCnt + 1#5 = 16#5
  · have hfifteen : s.colCnt.toNat = 15 := by bv_omega
    have hmark15 := hmoved 15 hfifteen.symm
    simp only [State.RowInv, hlast, beq_self_eq_true, if_true]
    exact ⟨htwo, hbudget, trivial, hmark15⟩
  · have hlt : s.colCnt.toNat + 1 ≤ 15 := by bv_omega
    simp only [State.RowInv, beq_iff_eq, hlast, if_false, hfsm, hnext]
    exact ⟨htwo, hbudget, by omega, hlt, fun k hk => hmoved k (Nat.succ.inj hk)⟩

/-! ### Every operation -/

/-- An operation that is selected in a state on its row leads to a state on its own. -/
theorem exec_rowInv {s u : State} {i : Instr} (hp : s.params.wellFormed = true) (h : s.RowInv)
    (hsel : s.Selects i) (hexec : exec i s = .next u) : u.RowInv := by
  cases i
  case seekMark =>
    obtain ⟨-, hfsm, -⟩ := hsel
    exact exec_seekMark_rowInv h hfsm hexec
  case skipOther =>
    obtain ⟨-, hfsm, -⟩ := hsel
    exact exec_skipOther_rowInv h hfsm hexec
  case collectByte =>
    obtain ⟨-, hfsm, -⟩ := hsel
    exact exec_collectByte_rowInv h hfsm hexec
  all_goals cases hexec
  case reset => exact s.resetRegisters_rowInv
  case idleStart => exact State.beginIteration_rowInv hp
  case idleStop => exact State.CountersInRange.rowInv h.countersInRange (.inr (.inl rfl))
  case seekOther =>
    obtain ⟨-, hfsm, -⟩ := hsel
    exact State.spendByte_rowInv h (.inl hfsm)
  case skipMark =>
    obtain ⟨-, hfsm, -⟩ := hsel
    exact State.spendByte_rowInv h (.inr hfsm)
  case emitRelease => exact State.release_rowInv hp h
  case seekExhausted | seekTimeout | skipExhausted | skipTimeout | collectExhausted
      | collectTimeout | decodeFrame =>
    exact h.countersInRange.finish_rowInv _
  case idleWait | seekNone | skipNone | collectNone | emitHold | stoppedHold | doneHold => exact h

/-- Only RESET and IDLE.WAIT lead to IDLE (44_frame_decoder_fsm.md R225). -/
theorem exec_eq_idle {s u : State} {i : Instr} (hsel : s.Selects i) (hexec : exec i s = .next u)
    (hidle : u.fsm = .idle) : i = .reset ∨ i = .idleWait := by
  cases i
  case reset => exact .inl rfl
  case idleWait => exact .inr rfl
  all_goals cases hexec
  case seekNone | skipNone | collectNone | emitHold =>
    obtain ⟨-, hfsm, -⟩ := hsel
    exact absurd (hfsm.symm.trans hidle) (by decide)
  case stoppedHold | doneHold =>
    obtain ⟨-, hfsm⟩ := hsel
    exact absurd (hfsm.symm.trans hidle) (by decide)
  case seekOther | skipMark =>
    obtain ⟨-, hfsm, -⟩ := hsel
    rcases s.spendByte_cases with ⟨-, hspend⟩ | ⟨-, hspend⟩ <;> simp [hspend, hfsm] at hidle
  case seekMark => split at hidle <;> cases hidle
  case collectByte =>
    obtain ⟨-, hfsm, -⟩ := hsel
    dsimp only at hidle
    split at hidle
    · cases hidle
    · simp [hfsm] at hidle
  case emitRelease =>
    rcases s.release_cases with ⟨-, hrel⟩ | ⟨-, -, hrel⟩ | ⟨-, -, -, hrel⟩ <;>
      simp [hrel] at hidle
  all_goals cases hidle

/-- Settles O42: the selected operation leads to a state on its row, and a step that ends in IDLE
latches no stop. -/
theorem everyStepKeepsRowInvariant : Obligations.EveryStepKeepsRowInvariant := by
  intro s t h hstep
  obtain ⟨hp, i, u, hsel, hexec, rfl⟩ := step_next_selects hstep
  apply (exec_rowInv hp h hsel hexec).clockEdge
  intro hidle
  rcases exec_eq_idle hsel hexec hidle with rfl | rfl
  · have hrst : s.sample.rst = true := hsel
    simp [stopLatch, hrst]
  · obtain ⟨-, -, hstop, -⟩ := hsel
    simp [stopLatch, hstop]

end Sys2Proof.Machine
end

section
/-! PROOFS. The reset values (10_state.md R42), the handshakes and transfers (R39 to R41), when the result
registers change (R26), and that ports not sampled have no effect (R38). -/

namespace Sys2Proof.Machine

/-! ### Reset -/

/-- A reset step restores the reset state, but for the port values and the cycle number
(70_reset_and_hazards.md R270). -/
theorem step_of_rst {s t : State} (hrst : s.sample.rst = true) (h : step s = .next t) :
    t = { State.resetWith s.params with upcoming := s.upcoming.tail, cycle := s.cycle + 1 } := by
  obtain ⟨-, u, hexec, rfl⟩ := step_next_inv h
  have hreset : decodeFields s.selector = .reset := by
    rw [← decode_opw]
    exact State.decode_of_selects hrst
  rw [hreset, exec_reset, Host.Outcome.next.injEq] at hexec
  subst hexec
  simp [State.clockEdge, State.resetRegisters, State.resetWith, stopLatch, hrst]

/-- Settles O12: a state after reset is `State.resetWith` up to the port values to come, and these show in
no register and at no output. -/
theorem resetStateValues : Obligations.ResetStateValues := by
  intro t ht
  obtain ⟨p, l, n, rfl⟩ :
      ∃ p l n, t = { State.resetWith p with upcoming := l, cycle := n } := by
    rcases ht with ⟨p, rfl⟩ | ⟨s, hrst, hstep⟩
    · exact ⟨p, [], 0, rfl⟩
    · exact ⟨s.params, _, _, step_of_rst hrst hstep⟩
  exact ⟨rfl, rfl, rfl, resetBuffer_getElem, rfl, rfl, rfl⟩

/-- The row of IDLE and legal result registers after reset, under any parameters. -/
theorem State.resetWith_invariants (p : Params) :
    (State.resetWith p).RowInv ∧ (State.resetWith p).ResultInv := by
  have hlegal : (State.resetWith p).res.Legal p := .inl rfl
  have hidle : (State.resetWith p).fsm ≠ .emit := by simp
  exact ⟨⟨rfl, rfl, resetBuffer_getElem, rfl⟩, hlegal, fun hemit => absurd hemit hidle⟩

/-- Settles O41: `State.reset` is the reset state under the default parameters. -/
theorem invariantsHoldAtReset : Obligations.InvariantsHoldAtReset :=
  ⟨State.resetWith_invariants, State.resetWith_invariants Params.default⟩

/-! ### Handshakes -/

/-- `in_ready` is 1 exactly in the three states that wait for a byte (10_state.md R41). -/
theorem State.inReady_iff (s : State) :
    s.inReady = true ↔ s.fsm = .seek ∨ s.fsm = .skip ∨ s.fsm = .collect := by
  simp [State.inReady, or_assoc]

/-- `out_valid` is 1 exactly in EMIT (10_state.md R41). -/
theorem State.outValid_iff (s : State) : s.outValid = true ↔ s.fsm = .emit := by
  simp [State.outValid]

/-- Settles O31: the outputs are read off the registers, which other port values to come leave alone. -/
theorem handshakeOutputs : Obligations.HandshakeOutputs :=
  fun s _ _ => ⟨s.inReady_iff, s.outValid_iff, rfl⟩

/-! ### Transfers -/

/-- The handshake of the source, spelled out (10_state.md R39). -/
theorem State.acceptedByte_eq_some_iff (s : State) (b : Byte) :
    s.acceptedByte = some b ↔ b = s.sample.inData ∧
      s.sample.rst = false ∧ s.inReady = true ∧ s.sample.inValid = true := by
  rw [eq_comm (a := b)]
  simp only [State.acceptedByte, Option.ite_none_right_eq_some, Option.some.injEq, Bool.and_eq_true,
    Bool.not_eq_true', and_assoc]
  tauto

/-- The handshake of the sink, spelled out (10_state.md R40). -/
theorem State.handedOver_eq_some_iff (s : State) (r : Result) :
    s.handedOver = some r ↔ r = s.res ∧
      s.sample.rst = false ∧ s.outValid = true ∧ s.sample.outReady = true := by
  rw [eq_comm (a := r)]
  simp only [State.handedOver, Option.ite_none_right_eq_some, Option.some.injEq, Bool.and_eq_true,
    Bool.not_eq_true', and_assoc]
  tauto

/-- The five operations that accept a byte are selected exactly when the source's handshake completes. -/
theorem State.decode_accepts_iff (s : State) :
    (decode s.opw = .seekMark ∨ decode s.opw = .seekOther ∨ decode s.opw = .skipMark ∨
      decode s.opw = .skipOther ∨ decode s.opw = .collectByte) ↔
    s.sample.rst = false ∧ s.inReady = true ∧ s.sample.inValid = true := by
  simp only [State.decode_opw_eq_iff, State.Selects, s.inReady_iff, ← s.outcome_byte_iff]
  tauto

/-- EMIT.RELEASE is selected exactly when the sink's handshake completes. -/
theorem State.decode_releases_iff (s : State) :
    decode s.opw = .emitRelease ↔
      s.sample.rst = false ∧ s.outValid = true ∧ s.sample.outReady = true := by
  rw [State.decode_opw_eq_iff, s.outValid_iff]
  rfl

/-- Settles O32: each handshake is the row of the operations that complete it. -/
theorem transfersHappenInTheirOperations : Obligations.TransfersHappenInTheirOperations := by
  intro s
  constructor
  · intro b
    rw [s.acceptedByte_eq_some_iff, s.decode_accepts_iff]
  · intro r
    rw [s.handedOver_eq_some_iff, s.decode_releases_iff]

/-! ### The result registers -/

/-- A byte that only counts keeps the result registers, or captures a result. -/
theorem State.spendByte_res (s : State) :
    s.spendByte.res = s.res ∨
      s.spendByte.fsm = .emit ∧ s.spendByte.colCnt = s.colCnt ∧ s.spendByte.buf = s.buf := by
  rcases s.spendByte_cases with ⟨-, hspend⟩ | ⟨-, hspend⟩ <;> rw [hspend]
  · exact .inl rfl
  · exact .inr ⟨rfl, rfl, rfl⟩

/-- Hand-over keeps the result registers (44_frame_decoder_fsm.md R211). -/
theorem State.release_res (s : State) : s.release.res = s.res := by
  rcases s.release_cases with ⟨-, hrel⟩ | ⟨-, -, hrel⟩ | ⟨-, -, -, hrel⟩ <;> rw [hrel]

/-- An operation other than RESET keeps the result registers, or captures a result from one of the
working states (60_exceptions.md R250). -/
theorem exec_res {s u : State} {i : Instr} (hsel : s.Selects i) (hrst : s.sample.rst = false)
    (hexec : exec i s = .next u) :
    u.res = s.res ∨
      (s.fsm = .seek ∨ s.fsm = .skip ∨ s.fsm = .collect ∨ s.fsm = .decode) ∧
        u.fsm = .emit ∧ u.colCnt = s.colCnt ∧ u.buf = s.buf := by
  cases i <;> cases hexec
  case reset => simp [State.Selects, hrst] at hsel
  case idleWait | idleStart | idleStop | seekNone | skipNone | skipOther | collectByte | collectNone
      | emitHold | stoppedHold | doneHold =>
    exact .inl rfl
  case emitRelease => exact .inl s.release_res
  case seekMark =>
    obtain ⟨-, hfsm, -⟩ := hsel
    split
    · exact .inr ⟨.inl hfsm, rfl, rfl, rfl⟩
    · exact .inl rfl
  case seekOther | skipMark =>
    obtain ⟨-, hfsm, -⟩ := hsel
    exact s.spendByte_res.imp_right (⟨by simp [hfsm], ·⟩)
  case seekExhausted | seekTimeout | skipExhausted | skipTimeout | collectExhausted
      | collectTimeout =>
    obtain ⟨-, hfsm, -⟩ := hsel
    exact .inr ⟨by simp [hfsm], rfl, rfl, rfl⟩
  case decodeFrame =>
    obtain ⟨-, hfsm⟩ := hsel
    exact .inr ⟨by simp [hfsm], rfl, rfl, rfl⟩

/-- Settles O30: the edge adds nothing to what the operation did to these registers. -/
theorem resultChangesOnlyOnCapture : Obligations.ResultChangesOnlyOnCapture := by
  intro s t hstep hrst hchanged
  obtain ⟨-, i, u, hsel, hexec, rfl⟩ := step_next_selects hstep
  rcases exec_res hsel hrst hexec with hres | ⟨hfrom, hfsm, hcol, hbuf⟩
  · exact absurd hres hchanged
  · exact ⟨hfsm, hfrom, hcol, hbuf⟩

/-! ### Ports that are not sampled -/

/-- Port values that agree where the coming edge of `s` samples them (10_state.md R38). -/
def State.SampledAlike (s : State) (i j : Inputs) : Prop :=
  i.rst = j.rst ∧
  (i.rst = false →
    i.stop = j.stop ∧
    (s.fsm = .idle → i.start = j.start) ∧
    (s.inReady = true → i.inValid = j.inValid) ∧
    (s.inReady = true → i.inValid = true → i.inData = j.inData) ∧
    (s.inReady = true → i.inValid = false →
      i.inTimeout = j.inTimeout ∧ i.inExhausted = j.inExhausted) ∧
    (s.fsm = .emit → i.outReady = j.outReady))

/-- `s` at an edge whose port values are `i`. -/
def State.facing (s : State) (i : Inputs) (l : List Inputs) : State := { s with upcoming := i :: l }

@[simp] theorem State.facing_sample (s : State) (i : Inputs) (l : List Inputs) :
    (s.facing i l).sample = i := rfl

/-- Outside reset, ports sampled alike give a waiting state the same read outcome. -/
theorem State.SampledAlike.outcome_eq {s : State} {i j : Inputs} {l : List Inputs}
    (h : s.SampledAlike i j) (hrst : i.rst = false) (hready : s.inReady = true) :
    (s.facing i l).outcome = (s.facing j l).outcome := by
  obtain ⟨-, halike⟩ := h
  obtain ⟨-, -, hvalid, hdata, hsilent, -⟩ := halike hrst
  change readOutcome i.inValid (i.inData == s.params.startMarker) i.inExhausted i.inTimeout =
    readOutcome j.inValid (j.inData == s.params.startMarker) j.inExhausted j.inTimeout
  rw [← hvalid hready]
  cases hv : i.inValid with
  | true => simp [readOutcome, hdata hready hv]
  | false =>
    obtain ⟨htimeout, hexhausted⟩ := hsilent hready hv
    simp [readOutcome, htimeout, hexhausted]

/-- Ports sampled alike meet the same row of the operation map. -/
theorem State.SampledAlike.selects {s : State} {i j : Inputs} {l : List Inputs} {op : Instr}
    (h : s.SampledAlike i j) (hsel : (s.facing i l).Selects op) : (s.facing j l).Selects op := by
  have hout := h.outcome_eq (l := l)
  obtain ⟨hrst, halike⟩ := h
  cases op
  case reset => exact hrst.symm.trans hsel
  all_goals
    obtain ⟨hi, hrow⟩ := hsel
    have hj : (s.facing j l).sample.rst = false := hrst.symm.trans hi
    obtain ⟨hstop, hstart, -, -, -, hready⟩ := halike hi
  case idleWait | idleStart =>
    obtain ⟨hfsm, hsp, hgo⟩ := hrow
    exact ⟨hj, hfsm, hstop.symm.trans hsp, (hstart hfsm).symm.trans hgo⟩
  case idleStop =>
    obtain ⟨hfsm, hsp⟩ := hrow
    exact ⟨hj, hfsm, hstop.symm.trans hsp⟩
  case emitHold | emitRelease =>
    obtain ⟨hfsm, hrdy⟩ := hrow
    exact ⟨hj, hfsm, (hready hfsm).symm.trans hrdy⟩
  case decodeFrame | stoppedHold | doneHold => exact ⟨hj, hrow⟩
  all_goals
    obtain ⟨hfsm, hread⟩ := hrow
    have hwaits : s.inReady = true := s.inReady_iff.mpr (by simp [show s.fsm = _ from hfsm])
    exact ⟨hj, hfsm, hout hi hwaits ▸ hread⟩

/-- Counting a byte reads no port value. -/
theorem State.spendByte_facing (s : State) (i j : Inputs) (l : List Inputs) :
    (s.facing i l).spendByte.facing j l = (s.facing j l).spendByte :=
  apply_ite (State.facing · j l) _ _ _

/-- Hand-over reads `stop` and no other port value. -/
theorem State.release_facing (s : State) {i j : Inputs} (l : List Inputs) (hstop : i.stop = j.stop) :
    (s.facing i l).release.facing j l = (s.facing j l).release := by
  unfold State.release
  simp only [State.facing_sample, hstop, apply_ite (State.facing · j l)]
  rfl

/-- An operation reads no port value but the byte it keeps and, at a hand-over, `stop`: where these
agree, it leads to the same state, the port values to come aside. -/
theorem exec_facing {s u : State} {i j : Inputs} {l : List Inputs} {op : Instr}
    (hdata : op = .skipOther ∨ op = .collectByte → i.inData = j.inData)
    (hstop : op = .emitRelease → i.stop = j.stop)
    (hexec : exec op (s.facing i l) = .next u) : exec op (s.facing j l) = .next (u.facing j l) := by
  cases op <;> cases hexec
  case seekMark =>
    rw [exec_seekMark, apply_ite (State.facing · j l)]
    rfl
  case seekOther | skipMark => exact congrArg _ (s.spendByte_facing i j l).symm
  case skipOther =>
    rw [exec_skipOther, State.facing_sample, State.facing_sample, hdata (.inl rfl)]
    rfl
  case collectByte =>
    rw [exec_collectByte, State.facing_sample, State.facing_sample, hdata (.inr rfl)]
    rfl
  case emitRelease => exact congrArg _ (s.release_facing l (hstop rfl)).symm
  all_goals rfl

/-- The byte is sampled by the two operations that read it, and `stop` outside reset. -/
theorem State.SampledAlike.operands {s : State} {i j : Inputs} {l : List Inputs} {op : Instr}
    (h : s.SampledAlike i j) (hsel : (s.facing i l).Selects op) :
    (op = .skipOther ∨ op = .collectByte → i.inData = j.inData) ∧
      (op = .emitRelease → i.stop = j.stop) := by
  obtain ⟨-, halike⟩ := h
  have hread : (s.facing i l).sample.rst = false → s.inReady = true →
      (s.facing i l).outcome = .mark ∨ (s.facing i l).outcome = .other → i.inData = j.inData := by
    intro hi hwaits hbyte
    obtain ⟨-, -, -, hdata, -⟩ := halike hi
    exact hdata hwaits ((s.facing i l).outcome_byte_iff.mp hbyte)
  constructor
  · rintro (rfl | rfl)
    · obtain ⟨hi, hfsm, hout⟩ := hsel
      exact hread hi (s.inReady_iff.mpr (.inr (.inl hfsm))) (.inr hout)
    · obtain ⟨hi, hfsm, hout⟩ := hsel
      exact hread hi (s.inReady_iff.mpr (.inr (.inr hfsm))) hout
  · rintro rfl
    obtain ⟨hi, -, -⟩ := hsel
    obtain ⟨hstop, -⟩ := halike hi
    exact hstop

/-- Ports sampled alike latch a stop alike (44_frame_decoder_fsm.md R220). -/
theorem State.SampledAlike.stopLatch_eq {s : State} {i j : Inputs} (h : s.SampledAlike i j) (q : Bool) :
    stopLatch i q = stopLatch j q := by
  obtain ⟨hrst, halike⟩ := h
  unfold stopLatch
  cases hi : i.rst with
  | true => simp [← hrst, hi]
  | false =>
    obtain ⟨hstop, -⟩ := halike hi
    simp [← hrst, hi, hstop]

/-- Every operation answers a next state (60_exceptions.md R240). -/
theorem exec_answers_next (op : Instr) (s : State) : ∃ u, exec op s = .next u := by
  cases op <;> exact ⟨_, rfl⟩

/-- Settles O10: the same operation is selected, it reads nothing in which the ports differ, and the edge
latches the same stop and drops the port values. -/
theorem unsampledInputsHaveNoEffect : Obligations.UnsampledInputsHaveNoEffect := by
  intro s i j l hrst halike
  have h : s.SampledAlike i j := ⟨hrst, halike⟩
  change step (s.facing i l) = step (s.facing j l)
  have hsel := (s.facing i l).selects_decode
  have hdecode : decode (s.facing j l).opw = decode (s.facing i l).opw :=
    State.decode_of_selects (h.selects hsel)
  obtain ⟨hdata, hstop⟩ := h.operands hsel
  obtain ⟨u, hi⟩ := exec_answers_next (decode (s.facing i l).opw) (s.facing i l)
  have hj := exec_facing hdata hstop hi
  have hedge : (s.facing i l).clockEdge u = (s.facing j l).clockEdge (u.facing j l) := by
    simp [State.clockEdge, State.facing, h.stopLatch_eq]
  have hparams : (s.facing j l).params = (s.facing i l).params := rfl
  simp only [step, hdecode, hparams, hi, hj, State.atEdge, hedge]

end Sys2Proof.Machine
end

section
/-! PROOFS. The selector word: its bits are the fields it was formed from, and the state made to present
a word selects it (30_encoding.md R80). -/

namespace Sys2Proof

/-! ### Words and fields -/

/-- A code is that of the state it reads back to (10_state.md R21). -/
theorem Fsm.ofCode_eq_iff {c : BitVec 3} {f : Fsm} : Fsm.ofCode c = f ↔ c = f.code := by
  constructor
  · rintro rfl
    exact (Fsm.code_ofCode c).symm
  · rintro rfl
    exact Fsm.ofCode_code f

/-- Bits 9 to 7 of a word are the code of its state field (30_encoding.md R80). -/
theorem getLsbD_opwFields_code (w : Opw) {k : Nat} (hk : k < 3) :
    (opwFields w).st.code.getLsbD k = w.getLsbD (7 + k) := by
  rw [opwFields, Fsm.code_ofCode, BitVec.getLsbD_extractLsb', decide_eq_true hk, Bool.true_and]

/-- A word is told by its fields: its eleven bits are the eight one-bit fields and the code of the
state (30_encoding.md R80). -/
theorem opwFields_injective {w w' : Opw} (h : opwFields w = opwFields w') : w = w' := by
  have hbit : ∀ k < 3, w.getLsbD (7 + k) = w'.getLsbD (7 + k) := fun k hk => by
    rw [← getLsbD_opwFields_code w hk, h, getLsbD_opwFields_code w' hk]
  simp only [opwFields, OpwFields.mk.injEq] at h
  obtain ⟨hrst, -, hv, hm, htmo, hex, hrdy, hgo, hsp⟩ := h
  have hlow : w.getLsbD 7 = w'.getLsbD 7 := hbit 0 (by decide)
  have hmid : w.getLsbD 8 = w'.getLsbD 8 := hbit 1 (by decide)
  have hhigh : w.getLsbD 9 = w'.getLsbD 9 := hbit 2 (by decide)
  apply BitVec.eq_of_getLsbD_eq
  intro k hk
  interval_cases k <;> assumption

/-- Every word is the one its fields make up (30_encoding.md R80). -/
theorem opwOfFields_opwFields (w : Opw) : opwOfFields (opwFields w) = w :=
  opwFields_injective (opwFields_opwOfFields _)

end Sys2Proof

namespace Sys2Proof.Machine

/-- The fields of OPW are those it was formed from (30_encoding.md R80). -/
theorem State.opwFields_opw (s : State) : opwFields s.opw = s.selector :=
  opwFields_opwOfFields s.selector

/-- Settles O1: each field read from OPW is the field it was formed from. -/
theorem selectorWordBits : Obligations.SelectorWordBits := by
  intro s
  have hfields := s.opwFields_opw
  simp only [opwFields, State.selector, State.markerSeen, OpwFields.mk.injEq] at hfields
  obtain ⟨hrst, hst, hv, hm, htmo, hex, hrdy, hgo, hsp⟩ := hfields
  exact ⟨hrst, Fsm.ofCode_eq_iff.mp hst, hv, hm.trans (beq_eq_decide _ _), htmo, hex, hrdy, hgo, hsp⟩

/-- The state made to present a word has that word's fields: its `in_data` is the start marker exactly
when bit 5 says so. -/
theorem State.presentOpw_selector (s : State) (w : Opw) :
    (s.presentOpw w).selector = opwFields w := by
  have hmarker : (s.presentOpw w).markerSeen = w.getLsbD 5 := by
    change ((if w.getLsbD 5 then s.params.startMarker else s.params.startMarker ^^^ 1#8)
      == s.params.startMarker) = w.getLsbD 5
    cases w.getLsbD 5 with
    | true => exact beq_self_eq_true _
    | false => simp
  rw [State.selector, hmarker]
  rfl

/-- The presented word is the selected one. -/
theorem State.presentOpw_opw (s : State) (w : Opw) : (s.presentOpw w).opw = w := by
  rw [State.opw, s.presentOpw_selector, opwOfFields_opwFields]

/-- Settles O6: sixteen bits of a number have its low eleven among them. -/
theorem presentedWordIsSelected : Obligations.PresentedWordIsSelected := by
  intro s w
  have hlow : BitVec.ofNat 11 (w % 2 ^ 16) = BitVec.ofNat 11 w := by
    apply BitVec.eq_of_toNat_eq
    simp only [BitVec.toNat_ofNat]
    omega
  refine ⟨?_, rfl, rfl⟩
  rw [State.withFetchWord, s.presentOpw_opw, hlow]

end Sys2Proof.Machine
end

section
/-! PROOFS. The rows of the operation map as mask and match (30_encoding.md R82): every word lies in the
row of the operation it decodes to and in no other (R83), so an encoded word decodes to its operation. -/

namespace Sys2Proof

/-! ### No word lies in two rows -/

/-- The operations, in the order of the table of 30_encoding.md R82. -/
def Instr.all : List Instr :=
  [.reset, .idleWait, .idleStart, .idleStop, .seekMark, .seekOther, .seekExhausted, .seekTimeout,
   .seekNone, .skipMark, .skipOther, .skipExhausted, .skipTimeout, .skipNone, .collectByte,
   .collectExhausted, .collectTimeout, .collectNone, .decodeFrame, .emitHold, .emitRelease,
   .stoppedHold, .doneHold]

theorem Instr.mem_all (i : Instr) : i ∈ Instr.all := by
  cases i <;> decide

/-- Two rows whose matches agree on the bits that both look at are the same row. -/
theorem eq_of_opRows_compatible {i j : Instr}
    (h : (opRow i).value &&& (opRow j).mask = (opRow j).value &&& (opRow i).mask) : i = j := by
  have hrows : ∀ i ∈ Instr.all, ∀ j ∈ Instr.all,
      (opRow i).value &&& (opRow j).mask = (opRow j).value &&& (opRow i).mask → i = j := by
    decide
  exact hrows i i.mem_all j j.mem_all h

theorem rowMatches_iff {i : Instr} {w : Opw} :
    rowMatches i w = true ↔ w &&& (opRow i).mask = (opRow i).value :=
  beq_iff_eq

/-- No word lies in two rows (30_encoding.md R83). -/
theorem rowMatches_unique {i j : Instr} {w : Opw} (hi : rowMatches i w = true)
    (hj : rowMatches j w = true) : i = j := by
  rw [rowMatches_iff] at hi hj
  apply eq_of_opRows_compatible
  calc (opRow i).value &&& (opRow j).mask
      = w &&& (opRow i).mask &&& (opRow j).mask := by rw [hi]
    _ = w &&& (opRow j).mask &&& (opRow i).mask := by ac_rfl
    _ = (opRow j).value &&& (opRow i).mask := by rw [hj]

/-! ### Every word lies in the row of the operation it decodes to -/

open Laws in
/-- The family RowValueWithinMask, for every operation. -/
theorem rowValueWithinMask : ∀ i : Instr, RowValueWithinMask.Statement i
  | .reset => RowValueWithinMask.reset
  | .idleWait => RowValueWithinMask.idleWait
  | .idleStart => RowValueWithinMask.idleStart
  | .idleStop => RowValueWithinMask.idleStop
  | .seekMark => RowValueWithinMask.seekMark
  | .seekOther => RowValueWithinMask.seekOther
  | .seekExhausted => RowValueWithinMask.seekExhausted
  | .seekTimeout => RowValueWithinMask.seekTimeout
  | .seekNone => RowValueWithinMask.seekNone
  | .skipMark => RowValueWithinMask.skipMark
  | .skipOther => RowValueWithinMask.skipOther
  | .skipExhausted => RowValueWithinMask.skipExhausted
  | .skipTimeout => RowValueWithinMask.skipTimeout
  | .skipNone => RowValueWithinMask.skipNone
  | .collectByte => RowValueWithinMask.collectByte
  | .collectExhausted => RowValueWithinMask.collectExhausted
  | .collectTimeout => RowValueWithinMask.collectTimeout
  | .collectNone => RowValueWithinMask.collectNone
  | .decodeFrame => RowValueWithinMask.decodeFrame
  | .emitHold => RowValueWithinMask.emitHold
  | .emitRelease => RowValueWithinMask.emitRelease
  | .stoppedHold => RowValueWithinMask.stoppedHold
  | .doneHold => RowValueWithinMask.doneHold

/-- A row's match sets only bits that its mask looks at. -/
theorem opRow_value_and_mask (i : Instr) :
    (opRow i).value &&& (opRow i).mask = (opRow i).value := by
  obtain ⟨hwithin, -⟩ := rowValueWithinMask i
  calc (opRow i).value &&& (opRow i).mask
      = (opRow i).value &&& (opRow i).mask ||| (opRow i).value &&& ~~~ (opRow i).mask := by
        rw [hwithin, BitVec.or_zero]
    _ = (opRow i).value := by
        rw [← BitVec.and_or_distrib_left, BitVec.or_not_self, BitVec.and_allOnes]

/-- A word lies in a row when it has the row's bits where the row looks. -/
theorem rowMatches_of_bits {i : Instr} {w : Opw}
    (h : ∀ k < 11, (opRow i).mask.getLsbD k = true → w.getLsbD k = (opRow i).value.getLsbD k) :
    rowMatches i w = true := by
  rw [rowMatches_iff]
  apply BitVec.eq_of_getLsbD_eq
  intro k hk
  rw [← opRow_value_and_mask i, BitVec.getLsbD_and, BitVec.getLsbD_and]
  cases hmask : (opRow i).mask.getLsbD k with
  | true => rw [h k hk hmask]
  | false => rw [Bool.and_false, Bool.and_false]

/-! ### The read outcome -/

theorem readOutcome_eq_mark_iff {v m ex tmo : Bool} :
    readOutcome v m ex tmo = .mark ↔ v = true ∧ m = true := by
  grind [readOutcome]

theorem readOutcome_eq_other_iff {v m ex tmo : Bool} :
    readOutcome v m ex tmo = .other ↔ v = true ∧ m = false := by
  grind [readOutcome]

theorem readOutcome_eq_exhausted_iff {v m ex tmo : Bool} :
    readOutcome v m ex tmo = .exhausted ↔ v = false ∧ ex = true := by
  grind [readOutcome]

theorem readOutcome_eq_timeout_iff {v m ex tmo : Bool} :
    readOutcome v m ex tmo = .timeout ↔ v = false ∧ ex = false ∧ tmo = true := by
  grind [readOutcome]

theorem readOutcome_eq_none_iff {v m ex tmo : Bool} :
    readOutcome v m ex tmo = .none ↔ v = false ∧ ex = false ∧ tmo = false := by
  grind [readOutcome]

/-- Settles O2: each outcome, read from its bits. -/
theorem readOutcomePriority : Obligations.ReadOutcomePriority := fun _ _ _ =>
  ⟨readOutcome_eq_mark_iff.mpr ⟨rfl, rfl⟩, readOutcome_eq_other_iff.mpr ⟨rfl, rfl⟩,
    readOutcome_eq_exhausted_iff.mpr ⟨rfl, rfl⟩, readOutcome_eq_timeout_iff.mpr ⟨rfl, rfl, rfl⟩,
    readOutcome_eq_none_iff.mpr ⟨rfl, rfl, rfl⟩⟩

end Sys2Proof

namespace Sys2Proof.Machine

/-- Bits 9 to 7 of OPW are the code of the FSM state (30_encoding.md R80). -/
theorem State.opw_getLsbD_code (s : State) {k : Nat} (hk : k < 3) :
    s.opw.getLsbD (7 + k) = s.fsm.code.getLsbD k := by
  rw [← getLsbD_opwFields_code s.opw hk, s.opwFields_opw, State.selector]

/-- The word a state forms lies in the row of the operation it selects: the registers and port values
under which it is selected are the bits that row looks at (30_encoding.md R82). -/
theorem State.Selects.rowMatches_opw {s : State} {i : Instr} (h : s.Selects i) :
    rowMatches i s.opw = true := by
  obtain ⟨h10, -, h6, h5, h4, h3, h2, h1, h0⟩ := selectorWordBits s
  have h9 : s.opw.getLsbD 9 = s.fsm.code.getLsbD 2 := s.opw_getLsbD_code (k := 2) (by decide)
  have h8 : s.opw.getLsbD 8 = s.fsm.code.getLsbD 1 := s.opw_getLsbD_code (k := 1) (by decide)
  have h7 : s.opw.getLsbD 7 = s.fsm.code.getLsbD 0 := s.opw_getLsbD_code (k := 0) (by decide)
  rw [← beq_eq_decide, ← State.markerSeen] at h5
  apply rowMatches_of_bits
  simp only [Nat.forall_lt_succ_right, h10, h9, h8, h7, h6, h5, h4, h3, h2, h1, h0]
  cases i
  case reset =>
    have hrst : s.sample.rst = true := h
    simp [opRow, hrst]
  case idleWait | idleStart =>
    obtain ⟨hrst, hfsm, hstop, hstart⟩ := h
    simp [opRow, Fsm.code, hrst, hfsm, hstop, hstart]
  case idleStop =>
    obtain ⟨hrst, hfsm, hstop⟩ := h
    simp [opRow, Fsm.code, hrst, hfsm, hstop]
  case decodeFrame | stoppedHold | doneHold =>
    obtain ⟨hrst, hfsm⟩ := h
    simp [opRow, Fsm.code, hrst, hfsm]
  case emitHold | emitRelease =>
    obtain ⟨hrst, hfsm, hready⟩ := h
    simp [opRow, Fsm.code, hrst, hfsm, hready]
  case collectByte =>
    obtain ⟨hrst, hfsm, hout⟩ := h
    simp [opRow, Fsm.code, hrst, hfsm, s.outcome_byte_iff.mp hout]
  case seekMark | skipMark =>
    obtain ⟨hrst, hfsm, hout⟩ := h
    obtain ⟨hvalid, hmark⟩ := readOutcome_eq_mark_iff.mp hout
    simp [opRow, Fsm.code, hrst, hfsm, hvalid, hmark]
  case seekOther | skipOther =>
    obtain ⟨hrst, hfsm, hout⟩ := h
    obtain ⟨hvalid, hmark⟩ := readOutcome_eq_other_iff.mp hout
    simp [opRow, Fsm.code, hrst, hfsm, hvalid, hmark]
  case seekExhausted | skipExhausted | collectExhausted =>
    obtain ⟨hrst, hfsm, hout⟩ := h
    obtain ⟨hvalid, hexhausted⟩ := readOutcome_eq_exhausted_iff.mp hout
    simp [opRow, Fsm.code, hrst, hfsm, hvalid, hexhausted]
  case seekTimeout | skipTimeout | collectTimeout =>
    obtain ⟨hrst, hfsm, hout⟩ := h
    obtain ⟨hvalid, hexhausted, htimeout⟩ := readOutcome_eq_timeout_iff.mp hout
    simp [opRow, Fsm.code, hrst, hfsm, hvalid, hexhausted, htimeout]
  case seekNone | skipNone | collectNone =>
    obtain ⟨hrst, hfsm, hout⟩ := h
    obtain ⟨hvalid, hexhausted, htimeout⟩ := readOutcome_eq_none_iff.mp hout
    simp [opRow, Fsm.code, hrst, hfsm, hvalid, hexhausted, htimeout]

end Sys2Proof.Machine

namespace Sys2Proof

/-- Every word lies in the row of the operation it decodes to: the word can be presented to a machine,
whose registers and port values then meet that row. -/
theorem rowMatches_decode (w : Opw) : rowMatches (decode w) w = true := by
  have hrow := (Machine.State.reset.presentOpw w).selects_decode.rowMatches_opw
  rwa [Machine.State.presentOpw_opw] at hrow

/-- A word decodes to an operation exactly when it lies in the operation's row (30_encoding.md R83). -/
theorem decode_eq_iff_rowMatches {i : Instr} {w : Opw} : decode w = i ↔ rowMatches i w = true :=
  ⟨fun h => h ▸ rowMatches_decode w, rowMatches_unique (rowMatches_decode w)⟩

/-- Settles O5: the decoded operation's row is met, and no word lies in two rows. -/
theorem everyWordMatchesExactlyOneRow : Obligations.EveryWordMatchesExactlyOneRow := fun w =>
  ⟨rowMatches_decode w, fun _ hrow => (decode_eq_iff_rowMatches.mpr hrow).symm⟩

/-! ### Decoding an encoded word -/

/-- The bits that the row ignores do not take the encoded word out of it. -/
theorem rowMatches_encodeWith (i : Instr) (x : Opw) : rowMatches i (encodeWith i x) = true := by
  rw [rowMatches_iff, encodeWith]
  calc ((opRow i).value ||| x &&& ~~~ (opRow i).mask) &&& (opRow i).mask
      = (opRow i).value &&& (opRow i).mask ||| x &&& (~~~ (opRow i).mask &&& (opRow i).mask) := by
        rw [BitVec.and_or_distrib_right, BitVec.and_assoc]
    _ = (opRow i).value := by
        simp [opRow_value_and_mask, BitVec.not_and_self]

theorem decode_encodeWith (i : Instr) (x : Opw) : decode (encodeWith i x) = i :=
  decode_eq_iff_rowMatches.mpr (rowMatches_encodeWith i x)

/-- As a number of the opcode table, an OPW decodes to the operation it selects. -/
theorem decodeTableWord_toNat (w : Opw) : decodeTableWord 16 w.toNat = some (decode w) := by
  have hlt : w.toNat < 2048 := w.isLt
  have hmod : w.toNat % 2 ^ 16 = w.toNat := Nat.mod_eq_of_lt (by omega)
  have hword : opwWellFormed w.toNat = true := decide_eq_true hlt
  rw [decodeTableWord, hmod, decodeWord, if_pos hword, BitVec.ofNat_toNat, BitVec.setWidth_eq]
  rfl

/-- Settles O4: an encoded word lies in its operation's row. -/
theorem decodeOfEncodeIsIdentity : Obligations.DecodeOfEncodeIsIdentity := by
  intro i x _
  refine ⟨decode_encodeWith i x, ?_⟩
  rw [decodeTableWord_toNat, decode_encodeWith]

/-- Settles O3: each word is compared with its operation's row, and the number is that of an OPW. -/
theorem writtenOutWordsDecode : Obligations.WrittenOutWordsDecode := by
  unfold Obligations.WrittenOutWordsDecode
  simp only [decode_eq_iff_rowMatches]
  decide

end Sys2Proof
end

section
/-! PROOFS. The result registers stay legal for their kind (30_encoding.md R84 to R87): DEC answers a legal
result, every operation keeps or captures one, and so no consumer finds a fault over any run. -/

namespace Sys2Proof.Machine

/-! ### Legal results -/

theorem Result.legal_syncTimeout (p : Params) : Result.syncTimeout.Legal p := .inr (.inl rfl)

theorem Result.legal_sourceExhausted (p : Params) : Result.sourceExhausted.Legal p :=
  .inr (.inr (.inl rfl))

theorem Result.legal_endWord {p : Params} {b : Byte} (h : b ≠ p.endMarker) :
    (Result.terminatorMismatch 1#3 b).Legal p :=
  .inr (.inr (.inr (.inl ⟨b, h, rfl⟩)))

theorem Result.legal_decimalPoint (p : Params) {b : Byte} (h : ¬ (0x30 ≤ b.toNat ∧ b.toNat ≤ 0x33)) :
    (Result.fieldRange 3#3 b).Legal p :=
  .inr (.inr (.inr (.inr (.inl ⟨b, h, rfl⟩))))

theorem Result.legal_displayId (p : Params) {b : Byte} (h : ¬ (0x31 ≤ b.toNat ∧ b.toNat ≤ 0x34)) :
    (Result.fieldRange 4#3 b).Legal p :=
  .inr (.inr (.inr (.inr (.inr (.inl ⟨b, h, rfl⟩)))))

theorem Result.legal_unknownCode {p : Params} {c : Code16} (h : ∀ i : Fin 16, p.annCode[i] ≠ c) :
    (Result.unknownCode c).Legal p :=
  .inr (.inr (.inr (.inr (.inr (.inr (.inl ⟨c, h, rfl⟩))))))

theorem Result.legal_reading {p : Params} {f : ParsedFields}
    (hone : 1 ≤ f.disp3.toNat) (hfour : f.disp3.toNat ≤ 4)
    (hcode : p.annCode[(romIndex p.annCode f.code16).toFin] = f.code16) :
    (Result.reading p f).Legal p :=
  .inr (.inr (.inr (.inr (.inr (.inr (.inr ⟨rfl, hone, hfour, hcode, rfl, rfl⟩))))))

/-- A consumer takes every legal result but NONE (30_encoding.md R87, 44_frame_decoder_fsm.md R226). -/
theorem Result.Legal.receive_eq_ok {p : Params} {r : Result} (h : r.Legal p) (hkind : r.kind ≠ 0#3) :
    r.receive = .ok r := by
  rcases h with rfl | rfl | rfl | ⟨b, -, rfl⟩ | ⟨b, -, rfl⟩ | ⟨b, -, rfl⟩ | ⟨c, -, rfl⟩ |
    ⟨hreading, -, -, -, hfield, -⟩
  · exact absurd rfl hkind
  · rfl
  · rfl
  · rfl
  · rfl
  · rfl
  · rfl
  · simp [Result.receive, hreading, hfield]

/-! ### DEC answers a legal result -/

/-- The decimal point check passes the characters '0' to '3' (43_lookup_validator.md R185). -/
theorem dpOk_iff (f : ParsedFields) :
    dpOk f = true ↔ 0x30 ≤ f.dpRaw.toNat ∧ f.dpRaw.toNat ≤ 0x33 := by
  simp only [dpOk, Bool.or_eq_true, beq_iff_eq]
  bv_omega

/-- The display check passes the characters '1' to '4' (43_lookup_validator.md R187). -/
theorem dispOk_iff (f : ParsedFields) :
    dispOk f = true ↔ 0x31 ≤ f.dispRaw.toNat ∧ f.dispRaw.toNat ≤ 0x34 := by
  simp only [dispOk, Bool.or_eq_true, beq_iff_eq]
  bv_omega

/-- A display character that passes its check gives a display id from 1 to 4 (42_field_parser.md R156). -/
theorem ParsedFields.disp3_range {f : ParsedFields} (h : dispOk f = true) :
    1 ≤ f.disp3.toNat ∧ f.disp3.toNat ≤ 4 := by
  rw [dispOk_iff] at h
  simp only [ParsedFields.disp3, BitVec.toNat_setWidth]
  bv_omega

/-- Where LOOKUP hits, its index is that of an entry equal to the code (43_lookup_validator.md R182). -/
theorem getElem_romIndex {rom : Vector Code16 16} {c : Code16} (h : romHit rom c = true) :
    rom[(romIndex rom c).toFin] = c := by
  have hlt : (romMatches rom c).findIdx id < (romMatches rom c).length :=
    List.findIdx_lt_length.mpr (by simpa [romHit] using h)
  have hlen : (romMatches rom c).length = 16 := by simp [romMatches]
  have hidx : (romIndex rom c).toNat = (romMatches rom c).findIdx id := by
    rw [romIndex, if_pos h, BitVec.toNat_ofNat, Nat.mod_eq_of_lt (by omega)]
  have hmatch : (c == rom[(romMatches rom c).findIdx id]) = true := by
    simpa [romMatches] using List.findIdx_getElem (w := hlt)
  simp only [Fin.getElem_fin, BitVec.val_toFin, hidx]
  exact (beq_iff_eq.mp hmatch).symm

/-- The annunciator check fails when no ROM entry equals the code (43_lookup_validator.md R186). -/
theorem ne_of_annOk_eq_false {p : Params} {f : ParsedFields} (h : annOk p f = false) (i : Fin 16) :
    p.annCode[i] ≠ f.code16 := by
  intro heq
  have hmem : f.code16 ∈ p.annCode := heq ▸ Vector.getElem_mem i.isLt
  rw [annOk, (romHit_iff _ _).mpr hmem] at h
  cases h

/-- Where the start marker stands at 15, as it does in DECODE, DEC answers a legal result: no START_WORD
mismatch is reported (43_lookup_validator.md R192), every other error holds a value that its check
rejects, and a READING has passed all checks. -/
theorem dec_legal {p : Params} {l : Frame} (hstart : l[15] = p.startMarker) :
    (dec p l).Legal p := by
  rcases dec_cases p l with ⟨hend, hdec⟩ | ⟨-, hbad, -⟩ | ⟨-, -, hdp, hdec⟩ | ⟨-, -, -, hann, hdec⟩ |
      ⟨-, -, -, -, hdisp, hdec⟩ | ⟨-, -, -, hann, hdisp, hdec⟩
  case inr.inl => simp [startOk, parse, hstart] at hbad
  all_goals rw [hdec]
  · exact Result.legal_endWord (by simpa [endOk] using hend)
  · exact Result.legal_decimalPoint p (by simpa [← dpOk_iff] using hdp)
  · exact Result.legal_unknownCode (ne_of_annOk_eq_false hann)
  · exact Result.legal_displayId p (by simpa [← dispOk_iff] using hdisp)
  · obtain ⟨hone, hfour⟩ := ParsedFields.disp3_range hdisp
    exact Result.legal_reading hone hfour (getElem_romIndex hann)

/-- DEC never answers NONE (44_frame_decoder_fsm.md R226). -/
theorem dec_kind_ne_none (p : Params) (l : Frame) : (dec p l).kind ≠ 0#3 := by
  rcases dec_cases p l with ⟨-, hdec⟩ | ⟨-, -, hdec⟩ | ⟨-, -, -, hdec⟩ | ⟨-, -, -, -, hdec⟩ |
      ⟨-, -, -, -, -, hdec⟩ | ⟨-, -, -, -, -, hdec⟩ <;>
    simp [hdec, Result.terminatorMismatch, Result.fieldRange, Result.unknownCode, Result.reading]

/-! ### What keeps the result registers legal -/

/-- Capture of a legal result other than NONE. -/
theorem State.finish_resultInv {s : State} {r : Result} (h : r.Legal s.params) (hkind : r.kind ≠ 0#3) :
    (s.finish r).ResultInv :=
  ⟨h, fun _ => hkind⟩

theorem State.finish_syncTimeout_resultInv (s : State) :
    (s.finish Result.syncTimeout).ResultInv :=
  State.finish_resultInv (Result.legal_syncTimeout _) (by decide)

theorem State.finish_sourceExhausted_resultInv (s : State) :
    (s.finish Result.sourceExhausted).ResultInv :=
  State.finish_resultInv (Result.legal_sourceExhausted _) (by decide)

/-- Outside EMIT it is enough that the registers and the parameters are those of a state where the
registers are legal. -/
theorem State.ResultInv.of_kept {s u : State} (h : s.ResultInv) (hres : u.res = s.res)
    (hparams : u.params = s.params) (hfsm : u.fsm ≠ .emit) : u.ResultInv := by
  obtain ⟨hlegal, -⟩ := h
  exact ⟨hres ▸ hparams ▸ hlegal, fun hemit => absurd hemit hfsm⟩

/-- A byte that only counts keeps the result, or captures SYNC_TIMEOUT. -/
theorem State.ResultInv.spendByte {s : State} (h : s.ResultInv) : s.spendByte.ResultInv := by
  rcases s.spendByte_cases with ⟨-, hspend⟩ | ⟨-, hspend⟩ <;> rw [hspend]
  · exact h
  · exact s.countByte.finish_syncTimeout_resultInv

/-- Hand-over keeps the result and leaves EMIT. -/
theorem State.ResultInv.release {s : State} (h : s.ResultInv) : s.release.ResultInv := by
  rcases s.release_cases with ⟨-, hrel⟩ | ⟨-, -, hrel⟩ | ⟨-, -, -, hrel⟩ <;>
    rw [hrel] <;> exact h.of_kept rfl rfl (by simp)

/-- The edge writes neither the result registers nor the FSM state. -/
theorem State.ResultInv.clockEdge {s u : State} (h : u.ResultInv) : (s.clockEdge u).ResultInv := h

/-- An operation that is selected in a state on its row keeps the result registers legal. -/
theorem exec_resultInv {s u : State} {i : Instr} (hrow : s.RowInv) (h : s.ResultInv)
    (hsel : s.Selects i) (hexec : exec i s = .next u) : u.ResultInv := by
  cases i <;> cases hexec
  case reset => exact ⟨.inl rfl, fun hemit => nomatch hemit⟩
  case idleWait | seekNone | skipNone | collectNone | emitHold | stoppedHold | doneHold => exact h
  case idleStart | idleStop | skipOther => exact h.of_kept rfl rfl (by simp)
  case collectByte =>
    obtain ⟨-, hfsm, -⟩ := hsel
    exact h.of_kept rfl rfl (by dsimp only; split <;> simp [hfsm])
  case seekMark =>
    split
    · exact s.countByte.finish_syncTimeout_resultInv
    · exact h.of_kept rfl rfl (by simp)
  case seekOther | skipMark => exact h.spendByte
  case seekTimeout | skipTimeout | collectTimeout => exact s.finish_syncTimeout_resultInv
  case seekExhausted | skipExhausted | collectExhausted => exact s.finish_sourceExhausted_resultInv
  case emitRelease => exact h.release
  case decodeFrame =>
    obtain ⟨-, hfsm⟩ := hsel
    obtain ⟨-, -, -, hstart⟩ := hrow.of_decode hfsm
    exact State.finish_resultInv (dec_legal hstart) (dec_kind_ne_none _ _)

/-- Settles O43: the selected operation keeps the result registers legal, and the edge writes none of
them. -/
theorem everyStepKeepsResultsLegal : Obligations.EveryStepKeepsResultsLegal := by
  intro s t hrow hres hstep
  obtain ⟨-, i, u, hsel, hexec, rfl⟩ := step_next_selects hstep
  exact (exec_resultInv hrow hres hsel hexec).clockEdge

/-! ### Results handed over in a run -/

/-- What holds of every result handed over in a state of an invariant holds of all that are handed over in
a run from such a state. -/
theorem forall_handedIn_of_invariant {Inv : State → Prop} {P : Result → Prop}
    (hstep : ∀ s t, Inv s → step s = .next t → Inv t)
    (hhanded : ∀ s r, Inv s → s.handedOver = some r → P r) :
    ∀ (n : Nat) (s : State), Inv s → ∀ r ∈ handedIn n s, P r := by
  intro n
  induction n with
  | zero => simp [handedIn]
  | succ n ih =>
    intro s hs r hr
    cases hnext : step s with
    | fault _ | refused _ => simp [handedIn, hnext] at hr
    | next t =>
      simp only [handedIn, hnext, List.mem_append, Option.mem_toList] at hr
      rcases hr with hr | hr
      · exact hhanded s r hs hr
      · exact ih t (hstep s t hs hnext) r hr

/-- Settles O44: a result is handed over in EMIT only, where it is legal and not NONE. -/
theorem consumerNeverFindsFault : Obligations.ConsumerNeverFindsFault := by
  intro n s hrow hres
  refine forall_handedIn_of_invariant (Inv := fun s => s.RowInv ∧ s.ResultInv) ?_ ?_ n s ⟨hrow, hres⟩
  · rintro s t ⟨hrow, hres⟩ hstep
    exact ⟨everyStepKeepsRowInvariant s t hrow hstep, everyStepKeepsResultsLegal s t hrow hres hstep⟩
  · rintro s r ⟨-, hlegal, hkind⟩ hhanded
    obtain ⟨rfl, -, hvalid, -⟩ := (s.handedOver_eq_some_iff r).mp hhanded
    exact hlegal.receive_eq_ok (hkind (s.outValid_iff.mp hvalid))

end Sys2Proof.Machine
end

section
/-! PROOFS. The bench consumes the source's bytes in order (30_encoding.md R91, 20_memory.md R58, R60). -/

namespace Sys2Proof.Machine

/-- The bytes accepted so far are those the source's pointer has passed. -/
def Bench.InOrder (st : Stimulus) (b : Bench) : Prop :=
  b.pointer ≤ st.bytes.length ∧ b.accepted = st.bytes.take b.pointer

/-- The port values of the core's coming edge are those the stimulus drives. -/
theorem Bench.driven_sample (st : Stimulus) (b : Bench) :
    (b.driven st).sample = st.inputsAt b.time b.pointer := rfl

/-- The core accepts no byte but the one the pointer stands at. -/
theorem Bench.getElem?_of_acceptedByte {st : Stimulus} {b : Bench} {x : Byte}
    (h : (b.driven st).acceptedByte = some x) : st.bytes[b.pointer]? = some x := by
  obtain ⟨hx, -, -, hvalid⟩ := ((b.driven st).acceptedByte_eq_some_iff x).mp h
  rw [Bench.driven_sample] at hx hvalid
  have hlt : b.pointer < st.bytes.length := of_decide_eq_true hvalid
  rw [hx, Stimulus.inputsAt, List.getD_eq_getElem _ _ hlt, List.getElem?_eq_getElem hlt]

/-- Inversion of a cycle: the pointer and the list of accepted bytes move by what the core accepts. -/
theorem Bench.step_next {st : Stimulus} {b b' : Bench} (h : b.step st = .next b') :
    b'.pointer = b.pointer + (b.driven st).acceptedByte.toList.length ∧
      b'.accepted = b.accepted ++ (b.driven st).acceptedByte.toList ∧ b'.time = b.time + 1 := by
  unfold Bench.step at h
  split at h
  · cases h
    exact ⟨rfl, rfl, rfl⟩
  · cases h
  · cases h

/-- A cycle keeps the order: it accepts no byte and the pointer stands, or it accepts the byte at the
pointer and the pointer moves past it. -/
theorem Bench.InOrder.step {st : Stimulus} {b b' : Bench} (h : b.InOrder st)
    (hstep : b.step st = .next b') : b'.InOrder st := by
  obtain ⟨hle, haccepted⟩ := h
  obtain ⟨hpointer', haccepted', -⟩ := Bench.step_next hstep
  unfold Bench.InOrder
  rw [hpointer', haccepted', haccepted]
  cases hbyte : (b.driven st).acceptedByte with
  | none => simpa using hle
  | some x =>
    have hx := Bench.getElem?_of_acceptedByte hbyte
    obtain ⟨hlt, -⟩ := List.getElem?_eq_some_iff.mp hx
    exact ⟨hlt, by simp [List.take_add_one, hx]⟩

/-- A run keeps the order and counts its cycles. -/
theorem Bench.InOrder.runFor {st : Stimulus} {n : Nat} {b b' : Bench} (h : b.InOrder st)
    (hrun : Bench.runFor st n b = .next b') : b'.InOrder st ∧ b'.time = b.time + n := by
  induction n generalizing b with
  | zero =>
    cases hrun
    exact ⟨h, rfl⟩
  | succ n ih =>
    rw [Bench.runFor] at hrun
    split at hrun
    · next bNext hstep =>
      obtain ⟨-, -, htime⟩ := Bench.step_next hstep
      obtain ⟨horder, htime'⟩ := ih (h.step hstep) hrun
      exact ⟨horder, by omega⟩
    · cases hrun
    · cases hrun

/-- Settles O52: before cycle 0 nothing is accepted and the pointer is 0, and a run keeps the order. -/
theorem benchConsumesSourceInOrder : Obligations.BenchConsumesSourceInOrder := by
  intro st n b hrun
  have hbegin : (Bench.begin st).InOrder st := ⟨Nat.zero_le _, rfl⟩
  obtain ⟨⟨hle, haccepted⟩, htime⟩ := hbegin.runFor hrun
  exact ⟨hle, haccepted, htime.trans (Nat.zero_add n)⟩

end Sys2Proof.Machine
end

section
/-! PROOFS. The operations that wait for a byte (40_frame_synchronizer.md R102 to R112,
41_frame_reversal_buffer.md R135 to R138): the step of a selected operation, and what each one writes. -/

namespace Sys2Proof.Machine

/-! ### The step of a selected operation -/

/-- Under legal parameters the step is the selected operation's answer, taken through the edge
(44_frame_decoder_fsm.md R200). -/
theorem step_of_selects {s u : State} {i : Instr} (hp : s.params.wellFormed = true)
    (hsel : s.Selects i) (hexec : exec i s = .next u) : step s = .next (s.clockEdge u) := by
  simp [step, hp, State.decode_of_selects hsel, hexec, State.atEdge]

/-- Outside reset the edge latches `stop` (44_frame_decoder_fsm.md R220). -/
theorem State.stepsBy_of_selects {s t : State} {i : Instr} (hp : s.params.wellFormed = true)
    (hrst : s.sample.rst = false) (hsel : s.Selects i) (hexec : exec i s = .next t) :
    s.StepsBy i t := by
  refine ⟨State.decode_of_selects hsel, ?_⟩
  simp [step_of_selects hp hsel hexec, State.clockEdge, stopLatch, hrst]

/-! ### The read outcome at the coming edge (30_encoding.md R81) -/

theorem State.outcome_eq_mark {s : State} (hvalid : s.sample.inValid = true)
    (hmark : s.sample.inData = s.params.startMarker) : s.outcome = .mark :=
  readOutcome_eq_mark_iff.mpr ⟨hvalid, beq_iff_eq.mpr hmark⟩

theorem State.outcome_eq_other {s : State} (hvalid : s.sample.inValid = true)
    (hother : s.sample.inData ≠ s.params.startMarker) : s.outcome = .other :=
  readOutcome_eq_other_iff.mpr ⟨hvalid, beq_eq_false_iff_ne.mpr hother⟩

/-! ### The byte at the coming edge (10_state.md R39) -/

theorem State.acceptedByte_of_valid {s : State} (hready : s.inReady = true)
    (hrst : s.sample.rst = false) (hvalid : s.sample.inValid = true) :
    s.acceptedByte = some s.sample.inData :=
  (s.acceptedByte_eq_some_iff _).mpr ⟨rfl, hrst, hready, hvalid⟩

theorem State.acceptedByte_of_not_valid {s : State} (hvalid : s.sample.inValid = false) :
    s.acceptedByte = none := by
  simp [State.acceptedByte, hvalid]

theorem State.acceptedByte_of_not_ready {s : State} (hready : s.inReady = false) :
    s.acceptedByte = none := by
  simp [State.acceptedByte, hready]

/-! ### A byte that only counts, by what is left of the budget (40_frame_synchronizer.md R104) -/

theorem State.spendByte_of_unspent {s : State} (h : s.nextCount ≠ s.params.budget) :
    s.spendByte = s.countByte := by
  rcases s.spendByte_cases with ⟨-, hspend⟩ | ⟨hspent, -⟩
  · exact hspend
  · exact absurd hspent h

theorem State.spendByte_of_spent {s : State} (h : s.nextCount = s.params.budget) :
    s.spendByte = s.countByte.finish Result.syncTimeout := by
  rcases s.spendByte_cases with ⟨hunspent, -⟩ | ⟨-, hspend⟩
  · exact absurd h hunspent
  · exact hspend

/-- Below the budget the marker is kept (40_frame_synchronizer.md R102). -/
theorem exec_seekMark_of_unspent {s : State} (h : s.nextCount ≠ s.params.budget) :
    exec .seekMark s = .next
      { s.countByte.shiftIn s.params.startMarker with colCnt := 1#5, fsm := .skip } := by
  simp [State.budgetSpent, h]

/-- At the budget even the marker is only counted (40_frame_synchronizer.md R102, R104). -/
theorem exec_seekMark_of_spent {s : State} (h : s.nextCount = s.params.budget) :
    exec .seekMark s = .next (s.countByte.finish Result.syncTimeout) := by
  simp [State.budgetSpent, h]

/-- `shift_in` moves every byte up one place (41_frame_reversal_buffer.md R131). -/
theorem shiftedIn_shiftIn (b : Byte) (v : Frame) : ShiftedIn b v (shiftIn b v) :=
  ⟨shiftIn_zero b v, fun k => shiftIn_succ b v k.val (by omega)⟩

/-! ### The operations that accept a byte -/

/-- Settles O14: the operation's answer with the budget spent and with some of it left. -/
theorem seekMarkKeepsOneMarker : Obligations.SeekMarkKeepsOneMarker := by
  intro s hp hfsm hrst hvalid hmark _
  have hsel : s.Selects .seekMark := ⟨hrst, hfsm, State.outcome_eq_mark hvalid hmark⟩
  have haccept := State.acceptedByte_of_valid (s.inReady_iff.mpr (.inl hfsm)) hrst hvalid
  by_cases hspent : s.nextCount = s.params.budget
  · have hexec := exec_seekMark_of_spent hspent
    exact ⟨_, hexec, State.stepsBy_of_selects hp hrst hsel hexec, haccept,
      fun _ => rfl, fun hunspent => absurd hspent hunspent⟩
  · have hexec := exec_seekMark_of_unspent hspent
    exact ⟨_, hexec, State.stepsBy_of_selects hp hrst hsel hexec, haccept,
      fun hspent' => absurd hspent' hspent, fun _ => ⟨rfl, shiftedIn_shiftIn _ _⟩⟩

/-- Settles O15: the byte only counts. -/
theorem seekOtherDiscardsByte : Obligations.SeekOtherDiscardsByte := by
  intro s hp hfsm hrst hvalid hother _
  have hsel : s.Selects .seekOther := ⟨hrst, hfsm, State.outcome_eq_other hvalid hother⟩
  have haccept := State.acceptedByte_of_valid (s.inReady_iff.mpr (.inl hfsm)) hrst hvalid
  exact ⟨s.spendByte, rfl, State.stepsBy_of_selects hp hrst hsel rfl, haccept,
    State.spendByte_of_spent, State.spendByte_of_unspent⟩

/-- Settles O16: the duplicate only counts. -/
theorem skipMarkSkipsDuplicate : Obligations.SkipMarkSkipsDuplicate := by
  intro s hp hfsm hrst hvalid hmark _
  have hsel : s.Selects .skipMark := ⟨hrst, hfsm, State.outcome_eq_mark hvalid hmark⟩
  have haccept := State.acceptedByte_of_valid (s.inReady_iff.mpr (.inr (.inl hfsm))) hrst hvalid
  exact ⟨s.spendByte, rfl, State.stepsBy_of_selects hp hrst hsel rfl, haccept,
    State.spendByte_of_spent, State.spendByte_of_unspent⟩

/-- Settles O17: one answer, whatever is left of the budget. -/
theorem skipOtherKeepsFirstContentByte : Obligations.SkipOtherKeepsFirstContentByte := by
  intro s hp hfsm hrst hvalid hother _
  have hsel : s.Selects .skipOther := ⟨hrst, hfsm, State.outcome_eq_other hvalid hother⟩
  have haccept := State.acceptedByte_of_valid (s.inReady_iff.mpr (.inr (.inl hfsm))) hrst hvalid
  exact ⟨_, exec_skipOther s, State.stepsBy_of_selects hp hrst hsel (exec_skipOther s), haccept,
    rfl, shiftedIn_shiftIn _ _⟩

/-! ### The outcomes without a byte -/

/-- Settles O19: the outcome is exhaustion, and each waiting state has its operation for it. -/
theorem exhaustionEndsIteration : Obligations.ExhaustionEndsIteration := by
  intro s hp hrst hvalid hexhausted
  have hout : s.outcome = .exhausted := readOutcome_eq_exhausted_iff.mpr ⟨hvalid, hexhausted⟩
  refine ⟨State.acceptedByte_of_not_valid hvalid, fun hfsm => ?seek, fun hfsm => ?skip,
    fun hfsm => ?collect⟩
  case seek =>
    exact ⟨rfl, State.stepsBy_of_selects hp hrst ⟨hrst, hfsm, hout⟩ (exec_seekExhausted s)⟩
  case skip =>
    exact ⟨rfl, State.stepsBy_of_selects hp hrst ⟨hrst, hfsm, hout⟩ (exec_skipExhausted s)⟩
  case collect =>
    exact ⟨rfl, State.stepsBy_of_selects hp hrst ⟨hrst, hfsm, hout⟩ (exec_collectExhausted s)⟩

/-- Settles O20: the outcome is a timeout, and each waiting state has its operation for it. -/
theorem timeoutEndsIteration : Obligations.TimeoutEndsIteration := by
  intro s hp hrst hvalid hexhausted htimeout
  have hout : s.outcome = .timeout :=
    readOutcome_eq_timeout_iff.mpr ⟨hvalid, hexhausted, htimeout⟩
  refine ⟨State.acceptedByte_of_not_valid hvalid, fun hfsm => ?seek, fun hfsm => ?skip,
    fun hfsm => ?collect⟩
  case seek =>
    exact ⟨rfl, State.stepsBy_of_selects hp hrst ⟨hrst, hfsm, hout⟩ (exec_seekTimeout s)⟩
  case skip =>
    exact ⟨rfl, State.stepsBy_of_selects hp hrst ⟨hrst, hfsm, hout⟩ (exec_skipTimeout s)⟩
  case collect =>
    exact ⟨rfl, State.stepsBy_of_selects hp hrst ⟨hrst, hfsm, hout⟩ (exec_collectTimeout s)⟩

/-- Settles O21: there is no outcome, and each waiting state has its operation for that. -/
theorem noOutcomeWaits : Obligations.NoOutcomeWaits := by
  intro s hp hrst hvalid hexhausted htimeout
  have hout : s.outcome = .none := readOutcome_eq_none_iff.mpr ⟨hvalid, hexhausted, htimeout⟩
  refine ⟨fun hfsm => ?seek, fun hfsm => ?skip, fun hfsm => ?collect⟩
  case seek => exact ⟨rfl, State.stepsBy_of_selects hp hrst ⟨hrst, hfsm, hout⟩ (exec_seekNone s)⟩
  case skip => exact ⟨rfl, State.stepsBy_of_selects hp hrst ⟨hrst, hfsm, hout⟩ (exec_skipNone s)⟩
  case collect =>
    exact ⟨rfl, State.stepsBy_of_selects hp hrst ⟨hrst, hfsm, hout⟩ (exec_collectNone s)⟩

end Sys2Proof.Machine
end

section
/-! PROOFS. An iteration accepts at most BUDGET + 14 bytes (40_frame_synchronizer.md R115,
41_frame_reversal_buffer.md R136): each accepted byte takes one from the number of bytes that the
iteration can still accept. -/

namespace Sys2Proof.Machine

/-! ### The bytes an iteration can still accept -/

/-- How many bytes the iteration can still accept: in SEEK and SKIP what is left of the budget and the
fourteen bytes after the first content byte, in COLLECT what is left of the frame. -/
def State.bytesLeft (s : State) : Nat :=
  match s.fsm with
  | .seek | .skip => s.params.budget.toNat - s.budgetCnt.toNat + 14
  | .collect => 16 - s.colCnt.toNat
  | .idle | .decode | .emit | .stopped | .done => 0

@[simp] theorem State.clockEdge_bytesLeft (s u : State) : (s.clockEdge u).bytesLeft = u.bytesLeft := rfl

@[simp] theorem State.finish_bytesLeft (s : State) (r : Result) : (s.finish r).bytesLeft = 0 := rfl

theorem State.bytesLeft_of_sync {s : State} (h : s.fsm = .seek ∨ s.fsm = .skip) :
    s.bytesLeft = s.params.budget.toNat - s.budgetCnt.toNat + 14 := by
  rcases h with h | h <;> simp only [State.bytesLeft, h]

theorem State.bytesLeft_of_collect {s : State} (h : s.fsm = .collect) :
    s.bytesLeft = 16 - s.colCnt.toNat := by
  simp only [State.bytesLeft, h]

/-- Phases 1 and 2 have some of the budget left (10_state.md R43). -/
theorem State.RowInv.budgetCnt_lt {s : State} (h : s.RowInv) (hfsm : s.fsm = .seek ∨ s.fsm = .skip) :
    s.budgetCnt.toNat < s.params.budget.toNat := by
  rcases hfsm with hfsm | hfsm
  · obtain ⟨hbudget, -⟩ := h.of_seek hfsm
    exact hbudget
  · obtain ⟨-, hbudget, -⟩ := h.of_skip hfsm
    exact hbudget

/-- A byte counted in SEEK or SKIP is one of those left, whether the iteration goes on or not. -/
theorem State.spendByte_bytesLeft {s : State} (h : s.RowInv) (hfsm : s.fsm = .seek ∨ s.fsm = .skip) :
    s.spendByte.bytesLeft + 1 ≤ s.bytesLeft := by
  have hbudget := h.budgetCnt_lt hfsm
  have hleft := State.bytesLeft_of_sync hfsm
  by_cases hspent : s.nextCount = s.params.budget
  · rw [State.spendByte_of_spent hspent, State.finish_bytesLeft]
    omega
  · have hnext := State.nextCount_toNat hbudget
    have hleft' := State.bytesLeft_of_sync (s := s.countByte) hfsm
    rw [State.spendByte_of_unspent hspent]
    simp only [State.countByte_budgetCnt, State.countByte_params] at hleft'
    omega

/-- The five operations that accept a byte take one from the bytes left. -/
theorem exec_bytesLeft_of_byte {s u : State} {i : Instr} (h : s.RowInv) (hsel : s.Selects i)
    (hbyte : i = .seekMark ∨ i = .seekOther ∨ i = .skipMark ∨ i = .skipOther ∨ i = .collectByte)
    (hexec : exec i s = .next u) : u.bytesLeft + 1 ≤ s.bytesLeft := by
  cases i
  case seekMark =>
    obtain ⟨-, hfsm, -⟩ := hsel
    have hbudget := h.budgetCnt_lt (.inl hfsm)
    have hnext := State.nextCount_toNat hbudget
    have hleft := State.bytesLeft_of_sync (.inl hfsm)
    by_cases hspent : s.nextCount = s.params.budget
    · cases (exec_seekMark_of_spent hspent).symm.trans hexec
      rw [State.finish_bytesLeft]
      omega
    · cases (exec_seekMark_of_unspent hspent).symm.trans hexec
      change s.params.budget.toNat - s.nextCount.toNat + 14 + 1 ≤ s.bytesLeft
      omega
  case seekOther =>
    obtain ⟨-, hfsm, -⟩ := hsel
    cases hexec
    exact State.spendByte_bytesLeft h (.inl hfsm)
  case skipMark =>
    obtain ⟨-, hfsm, -⟩ := hsel
    cases hexec
    exact State.spendByte_bytesLeft h (.inr hfsm)
  case skipOther =>
    obtain ⟨-, hfsm, -⟩ := hsel
    cases hexec
    have hbudget := h.budgetCnt_lt (.inr hfsm)
    have hleft := State.bytesLeft_of_sync (.inr hfsm)
    change 16 - 2 + 1 ≤ s.bytesLeft
    omega
  case collectByte =>
    obtain ⟨-, hfsm, -⟩ := hsel
    cases hexec
    obtain ⟨-, -, -, hcol, -⟩ := h.of_collect hfsm
    have hnext : (s.colCnt + 1#5).toNat = s.colCnt.toNat + 1 := by bv_omega
    rw [State.bytesLeft_of_collect hfsm]
    by_cases hlast : s.colCnt + 1#5 = 16#5
    · simp only [State.bytesLeft, hlast, beq_self_eq_true, if_true]
      omega
    · simp only [State.bytesLeft, beq_iff_eq, hlast, if_false, hfsm, hnext]
      omega
  all_goals simp at hbyte

/-- Between two hand-overs no operation but those of IDLE adds to the bytes left. -/
theorem exec_bytesLeft_le {s u : State} {i : Instr} (h : s.RowInv) (hsel : s.Selects i)
    (hrst : s.sample.rst = false) (hidle : s.fsm ≠ .idle) (hrelease : i ≠ .emitRelease)
    (hexec : exec i s = .next u) : u.bytesLeft ≤ s.bytesLeft := by
  cases i
  case reset => simp [State.Selects, hrst] at hsel
  case idleWait | idleStart | idleStop =>
    obtain ⟨-, hfsm, -⟩ := hsel
    exact absurd hfsm hidle
  case emitRelease => exact absurd rfl hrelease
  case seekMark | seekOther | skipMark | skipOther | collectByte =>
    exact Nat.le_of_succ_le (exec_bytesLeft_of_byte h hsel (by simp) hexec)
  case seekExhausted | seekTimeout | skipExhausted | skipTimeout | collectExhausted
      | collectTimeout | decodeFrame =>
    cases hexec
    exact Nat.zero_le _
  case seekNone | skipNone | collectNone | emitHold | stoppedHold | doneHold =>
    cases hexec
    exact le_rfl

/-! ### Steps and runs within an iteration -/

/-- A state of an iteration, up to and with the hand-over of its result, or after the loop's end: its row
holds and it does not wait for a start. -/
def State.Started (s : State) : Prop := s.RowInv ∧ s.fsm ≠ .idle

theorem State.Fresh.started {s : State} (h : s.Fresh) : s.Started := by
  obtain ⟨hp, hfsm, hbudget, hcol⟩ := h
  refine ⟨?_, by simp [hfsm]⟩
  simpa only [State.RowInv, hfsm, hbudget] using ⟨Params.budget_pos hp, hcol⟩

/-- Only a reset leads back to IDLE (44_frame_decoder_fsm.md R225). -/
theorem State.Started.step {s t : State} (h : s.Started) (hrst : s.sample.rst = false)
    (hstep : step s = .next t) : t.Started := by
  obtain ⟨hrow, hidle⟩ := h
  refine ⟨everyStepKeepsRowInvariant s t hrow hstep, fun hidle' => ?_⟩
  obtain ⟨-, i, u, hsel, hexec, rfl⟩ := step_next_selects hstep
  rcases exec_eq_idle hsel hexec hidle' with rfl | rfl
  · simp [State.Selects, hrst] at hsel
  · obtain ⟨-, hfsm, -⟩ := hsel
    exact hidle hfsm

/-- A step that hands nothing over accepts no more than it takes from the bytes left. -/
theorem State.Started.bytesLeft_step {s t : State} (h : s.Started) (hrst : s.sample.rst = false)
    (hhanded : s.handedOver = none) (hstep : Machine.step s = .next t) :
    s.acceptedByte.toList.length + t.bytesLeft ≤ s.bytesLeft := by
  obtain ⟨hrow, hidle⟩ := h
  obtain ⟨-, i, u, hsel, hexec, rfl⟩ := step_next_selects hstep
  obtain rfl := State.decode_of_selects hsel
  obtain ⟨haccepts, hreleases⟩ := transfersHappenInTheirOperations s
  rw [State.clockEdge_bytesLeft]
  cases hbyte : s.acceptedByte with
  | none =>
    have hrelease : decode s.opw ≠ .emitRelease := fun hrel => by
      simp [(hreleases s.res).mpr ⟨rfl, hrel⟩] at hhanded
    simpa using exec_bytesLeft_le hrow hsel hrst hidle hrelease hexec
  | some b =>
    obtain ⟨-, hop⟩ := (haccepts b).mp hbyte
    have hless := exec_bytesLeft_of_byte hrow hsel hop hexec
    simpa [Nat.add_comm] using hless

/-- A run that hands nothing over accepts no more bytes than were left at its start. -/
theorem State.Started.acceptedIn_length_le {n : Nat} {s : State} (h : s.Started)
    (hrst : noResetIn n s) (hhanded : handedIn n s = []) :
    (acceptedIn n s).length ≤ s.bytesLeft := by
  induction n generalizing s with
  | zero => exact Nat.zero_le _
  | succ n ih =>
    cases hstep : Machine.step s with
    | fault _ | refused _ => simp [acceptedIn, hstep]
    | next t =>
      obtain ⟨hrst, hrst'⟩ := hrst
      simp only [handedIn, hstep, List.append_eq_nil_iff, Option.toList_eq_nil_iff] at hhanded
      obtain ⟨hhanded, hhanded'⟩ := hhanded
      have hfirst := h.bytesLeft_step hrst hhanded hstep
      have hrest := ih (h.step hrst hstep) (hrst' t hstep) hhanded'
      simp only [acceptedIn, hstep, List.length_append]
      omega

/-- Settles O49: a fresh iteration has the whole budget and fourteen bytes left. -/
theorem iterationAcceptsBoundedBytes : Obligations.IterationAcceptsBoundedBytes := by
  intro n s hfresh hrst hhanded
  have hle := hfresh.started.acceptedIn_length_le hrst hhanded
  obtain ⟨-, hfsm, hbudget, -⟩ := hfresh
  simpa [State.bytesLeft_of_sync (.inl hfsm), hbudget] using hle

end Sys2Proof.Machine
end

section
/-! PROOFS. Synchronization on a source that offers a byte at every edge (40_frame_synchronizer.md R113):
bytes that only count, then the marker that leads to SKIP and the byte that leads to COLLECT, or the byte
that spends the budget. -/

namespace Sys2Proof.Machine

/-! ### Runs that read a byte at every edge -/

/-- A run from `s` to `t` whose every step accepts the byte that its edge offers. -/
inductive State.Reads : State → List Inputs → State → Prop where
  /-- No edge. -/
  | nil (s : State) : s.Reads [] s
  /-- One more edge at the front. -/
  | cons {s u t : State} {i : Inputs} {ins : List Inputs} (hstep : step s = .next u)
      (hbyte : s.acceptedByte = some i.inData) (hread : u.Reads ins t) : s.Reads (i :: ins) t

theorem State.Reads.append {s u t : State} {ins ins' : List Inputs} (h : s.Reads ins u)
    (h' : u.Reads ins' t) : s.Reads (ins ++ ins') t := by
  induction h with
  | nil => exact h'
  | cons hstep hbyte _ ih => exact .cons hstep hbyte (ih h')

theorem State.Reads.run_eq {s t : State} {ins : List Inputs} (h : s.Reads ins t) :
    Host.Core.run Sys2Proof.core ins.length s = .next t := by
  induction h with
  | nil => rfl
  | cons hstep _ _ ih => exact (run_succ_of_step _ hstep).trans ih

theorem State.Reads.acceptedIn_eq {s t : State} {ins : List Inputs} (h : s.Reads ins t) :
    acceptedIn ins.length s = ins.map (·.inData) := by
  induction h with
  | nil => rfl
  | cons hstep hbyte _ ih => simp [acceptedIn, hstep, hbyte, ih]

/-- Under legal parameters the coming edges `ins` each offer a byte, and `rest` follows. -/
structure State.Offers (s : State) (ins rest : List Inputs) : Prop where
  legal : s.params.wellFormed = true
  upcoming : s.upcoming = ins ++ rest
  bytes : ∀ i ∈ ins, i.offersByte

section
variable {s u : State} {i : Inputs} {ins rest : List Inputs} {op : Instr}

theorem State.Offers.sample_eq (h : s.Offers (i :: ins) rest) : s.sample = i :=
  State.sample_of_upcoming h.upcoming

theorem State.Offers.sample_offersByte (h : s.Offers (i :: ins) rest) : s.sample.offersByte :=
  h.sample_eq ▸ h.bytes i List.mem_cons_self

/-- The operation that a waiting state selects reads the byte of the coming edge. -/
theorem State.Offers.reads (h : s.Offers (i :: ins) rest) (hready : s.inReady = true)
    (hsel : s.Selects op) (hexec : exec op s = .next u) : s.Reads [i] (s.clockEdge u) := by
  obtain ⟨hrst, hvalid⟩ := h.sample_offersByte
  have hbyte := State.acceptedByte_of_valid hready hrst hvalid
  rw [h.sample_eq] at hbyte
  exact .cons (step_of_selects h.legal hsel hexec) hbyte (.nil _)

/-- After the edge the source offers the bytes that are still to come. -/
theorem State.Offers.clockEdge (h : s.Offers (i :: ins) rest) (hparams : u.params = s.params) :
    (s.clockEdge u).Offers ins rest where
  legal := hparams ▸ h.legal
  upcoming := by simp [h.upcoming]
  bytes := fun j hj => h.bytes j (List.mem_cons_of_mem i hj)

end

/-! ### One byte in phases 1 and 2 -/

section
variable {s : State} {i : Inputs} {ins rest : List Inputs}

/-- A byte that only counts: a non-marker in SEEK, a marker in SKIP (40_frame_synchronizer.md R103,
R108). -/
def State.OnlyCounts (s : State) (b : Byte) : Prop :=
  s.fsm = .seek ∧ b ≠ s.params.startMarker ∨ s.fsm = .skip ∧ b = s.params.startMarker

/-- `t` is `s` after `n` bytes that only counted. -/
structure State.Counted (s : State) (n : Nat) (t : State) : Prop where
  fsm : t.fsm = s.fsm
  budgetCnt : t.budgetCnt.toNat = s.budgetCnt.toNat + n
  buf : t.buf = s.buf
  params : t.params = s.params

/-- The iteration has ended with SYNC_TIMEOUT, the budget spent (40_frame_synchronizer.md R104). -/
def State.TimedOut (s : State) : Prop :=
  s.fsm = .emit ∧ s.res = { kind := 2#3 } ∧ s.budgetCnt = s.params.budget

/-- SEEK.MARK is selected by the marker in SEEK. -/
theorem State.Offers.selects_seekMark (h : s.Offers (i :: ins) rest) (hfsm : s.fsm = .seek)
    (hmark : i.inData = s.params.startMarker) : s.Selects .seekMark := by
  obtain ⟨hrst, hvalid⟩ := h.sample_offersByte
  exact ⟨hrst, hfsm, State.outcome_eq_mark hvalid (h.sample_eq ▸ hmark)⟩

/-- SKIP.OTHER is selected by a non-marker in SKIP. -/
theorem State.Offers.selects_skipOther (h : s.Offers (i :: ins) rest) (hfsm : s.fsm = .skip)
    (hother : i.inData ≠ s.params.startMarker) : s.Selects .skipOther := by
  obtain ⟨hrst, hvalid⟩ := h.sample_offersByte
  exact ⟨hrst, hfsm, State.outcome_eq_other hvalid (h.sample_eq ▸ hother)⟩

/-- SEEK.OTHER and SKIP.MARK have one meaning. -/
theorem State.Offers.reads_of_onlyCounts (h : s.Offers (i :: ins) rest)
    (hcounts : s.OnlyCounts i.inData) : s.Reads [i] (s.clockEdge s.spendByte) := by
  obtain ⟨hrst, hvalid⟩ := h.sample_offersByte
  rw [← h.sample_eq] at hcounts
  rcases hcounts with ⟨hfsm, hother⟩ | ⟨hfsm, hmark⟩
  · have hsel : s.Selects .seekOther := ⟨hrst, hfsm, State.outcome_eq_other hvalid hother⟩
    exact h.reads (s.inReady_iff.mpr (.inl hfsm)) hsel rfl
  · have hsel : s.Selects .skipMark := ⟨hrst, hfsm, State.outcome_eq_mark hvalid hmark⟩
    exact h.reads (s.inReady_iff.mpr (.inr (.inl hfsm))) hsel rfl

/-- Some of the budget is left after a byte that does not bring the count up to it
(40_frame_synchronizer.md R104). -/
theorem State.nextCount_ne_budget {s : State} (h : s.budgetCnt.toNat + 1 < s.params.budget.toNat) :
    s.nextCount ≠ s.params.budget := by
  intro hspent
  have hnext := State.nextCount_toNat (Nat.lt_of_succ_lt h)
  rw [hspent] at hnext
  omega

/-- The byte that brings the count up to BUDGET spends it (40_frame_synchronizer.md R104). -/
theorem State.nextCount_eq_budget {s : State} (h : s.budgetCnt.toNat + 1 = s.params.budget.toNat) :
    s.nextCount = s.params.budget :=
  BitVec.eq_of_toNat_eq ((State.nextCount_toNat (Nat.lt_of_succ_le h.le)).trans h)

/-- With budget left after it, a byte that only counts is counted and no more. -/
theorem State.Offers.counts (h : s.Offers (i :: ins) rest) (hcounts : s.OnlyCounts i.inData)
    (hleft : s.budgetCnt.toNat + 1 < s.params.budget.toNat) :
    ∃ t, s.Reads [i] t ∧ t.Offers ins rest ∧ s.Counted 1 t := by
  have hread := h.reads_of_onlyCounts hcounts
  rw [State.spendByte_of_unspent (State.nextCount_ne_budget hleft)] at hread
  exact ⟨_, hread, h.clockEdge rfl, rfl, State.nextCount_toNat (Nat.lt_of_succ_lt hleft), rfl, rfl⟩

/-- A byte that only counts and spends the budget ends the iteration. -/
theorem State.Offers.timesOut (h : s.Offers (i :: ins) rest) (hcounts : s.OnlyCounts i.inData)
    (hspent : s.budgetCnt.toNat + 1 = s.params.budget.toNat) :
    ∃ t, s.Reads [i] t ∧ t.Offers ins rest ∧ t.TimedOut ∧ t.params = s.params := by
  have hbudget := State.nextCount_eq_budget hspent
  have hread := h.reads_of_onlyCounts hcounts
  rw [State.spendByte_of_spent hbudget] at hread
  exact ⟨_, hread, h.clockEdge rfl, ⟨rfl, rfl, hbudget⟩, rfl⟩

/-- With budget left after it, the first marker is kept at 0 and leads to SKIP
(40_frame_synchronizer.md R102). -/
theorem State.Offers.skips (h : s.Offers (i :: ins) rest) (hfsm : s.fsm = .seek)
    (hmark : i.inData = s.params.startMarker)
    (hleft : s.budgetCnt.toNat + 1 < s.params.budget.toNat) :
    ∃ t, s.Reads [i] t ∧ t.Offers ins rest ∧ t.fsm = .skip ∧
      t.budgetCnt.toNat = s.budgetCnt.toNat + 1 ∧ t.buf[0] = s.params.startMarker ∧
      t.params = s.params := by
  have hexec := exec_seekMark_of_unspent (State.nextCount_ne_budget hleft)
  have hread := h.reads (s.inReady_iff.mpr (.inl hfsm)) (h.selects_seekMark hfsm hmark) hexec
  exact ⟨_, hread, h.clockEdge rfl, rfl, State.nextCount_toNat (Nat.lt_of_succ_lt hleft), rfl, rfl⟩

/-- A first marker that spends the budget ends the iteration (40_frame_synchronizer.md R102, R104). -/
theorem State.Offers.timesOut_at_marker (h : s.Offers (i :: ins) rest) (hfsm : s.fsm = .seek)
    (hmark : i.inData = s.params.startMarker)
    (hspent : s.budgetCnt.toNat + 1 = s.params.budget.toNat) :
    ∃ t, s.Reads [i] t ∧ t.Offers ins rest ∧ t.TimedOut ∧ t.params = s.params := by
  have hbudget := State.nextCount_eq_budget hspent
  have hexec := exec_seekMark_of_spent hbudget
  have hread := h.reads (s.inReady_iff.mpr (.inl hfsm)) (h.selects_seekMark hfsm hmark) hexec
  exact ⟨_, hread, h.clockEdge rfl, ⟨rfl, rfl, hbudget⟩, rfl⟩

/-- The first content byte within the budget moves the byte at 0 up and leads to COLLECT
(40_frame_synchronizer.md R109). -/
theorem State.Offers.collects (h : s.Offers (i :: ins) rest) (hfsm : s.fsm = .skip)
    (hother : i.inData ≠ s.params.startMarker)
    (hbudget : s.budgetCnt.toNat < s.params.budget.toNat) :
    ∃ t, s.Reads [i] t ∧ t.Offers ins rest ∧ t.fsm = .collect ∧
      t.budgetCnt.toNat = s.budgetCnt.toNat + 1 ∧ t.colCnt = 2#5 ∧ t.buf[1] = s.buf[0] ∧
      t.buf[0] = i.inData ∧ t.params = s.params := by
  have hread := h.reads (s.inReady_iff.mpr (.inr (.inl hfsm))) (h.selects_skipOther hfsm hother)
    (exec_skipOther s)
  exact ⟨_, hread, h.clockEdge rfl, rfl, State.nextCount_toNat hbudget, rfl, rfl,
    congrArg Inputs.inData h.sample_eq, rfl⟩

end

/-! ### Any number of bytes that only count -/

theorem State.Counted.trans {s u t : State} {m n : Nat} (h : s.Counted m u) (h' : u.Counted n t) :
    s.Counted (m + n) t where
  fsm := h'.fsm.trans h.fsm
  budgetCnt := by rw [h'.budgetCnt, h.budgetCnt, Nat.add_assoc]
  buf := h'.buf.trans h.buf
  params := h'.params.trans h.params

theorem State.Counted.onlyCounts {s t : State} {n : Nat} {b : Byte} (h : s.Counted n t)
    (hb : s.OnlyCounts b) : t.OnlyCounts b := by
  simpa only [State.OnlyCounts, h.fsm, h.params] using hb

/-- Bytes that only count are all counted, as long as budget is left after the last of them. -/
theorem State.Offers.countsAll {s : State} {ins ins' rest : List Inputs}
    (h : s.Offers (ins ++ ins') rest) (hcounts : ∀ i ∈ ins, s.OnlyCounts i.inData)
    (hleft : s.budgetCnt.toNat + ins.length < s.params.budget.toNat) :
    ∃ t, s.Reads ins t ∧ t.Offers ins' rest ∧ s.Counted ins.length t := by
  induction ins generalizing s with
  | nil => exact ⟨s, .nil s, h, rfl, rfl, rfl, rfl⟩
  | cons i ins ih =>
    simp only [List.length_cons] at hleft ⊢
    obtain ⟨hfirst, hothers⟩ := List.forall_mem_cons.mp hcounts
    obtain ⟨u, hread, hoffers, hcounted⟩ := State.Offers.counts h hfirst (by omega)
    have hleft' : u.budgetCnt.toNat + ins.length < u.params.budget.toNat := by
      rw [hcounted.budgetCnt, hcounted.params]
      omega
    obtain ⟨t, hread', hoffers', hcounted'⟩ :=
      ih hoffers (fun j hj => hcounted.onlyCounts (hothers j hj)) hleft'
    exact ⟨t, hread.append hread', hoffers', Nat.add_comm 1 ins.length ▸ hcounted.trans hcounted'⟩

/-- Bytes that only count end the iteration when the last of them spends the budget. -/
theorem State.Offers.timesOut_of_onlyCounts {s : State} {ins rest : List Inputs}
    (h : s.Offers ins rest) (hne : ins ≠ []) (hcounts : ∀ i ∈ ins, s.OnlyCounts i.inData)
    (hspent : s.budgetCnt.toNat + ins.length = s.params.budget.toNat) :
    ∃ t, s.Reads ins t ∧ t.Offers [] rest ∧ t.TimedOut ∧ t.params = s.params := by
  obtain rfl | ⟨init, last, rfl⟩ := List.eq_nil_or_concat' ins
  · exact absurd rfl hne
  · obtain ⟨hinit, hlast⟩ := List.forall_mem_append.mp hcounts
    rw [List.length_append, List.length_singleton] at hspent
    obtain ⟨u, hread, hoffers, hcounted⟩ := h.countsAll hinit (by omega)
    have hspent' : u.budgetCnt.toNat + 1 = u.params.budget.toNat := by
      rw [hcounted.budgetCnt, hcounted.params]
      omega
    obtain ⟨t, hread', hoffers', htimedOut, hparams⟩ :=
      hoffers.timesOut (hcounted.onlyCounts (hlast last List.mem_cons_self)) hspent'
    exact ⟨t, hread.append hread', hoffers', htimedOut, hparams.trans hcounted.params⟩

/-! ### Phases 1 and 2 from SEEK -/

section
variable {s : State} {before marks rest : List Inputs} {i : Inputs}

/-- Non-markers and a marker after them lead to SKIP with the marker at 0, as long as budget is left. -/
theorem State.Offers.readsToSkip {ins : List Inputs} (h : s.Offers (before ++ i :: ins) rest)
    (hfsm : s.fsm = .seek) (hbefore : ∀ j ∈ before, j.inData ≠ s.params.startMarker)
    (hmark : i.inData = s.params.startMarker)
    (hleft : s.budgetCnt.toNat + before.length + 1 < s.params.budget.toNat) :
    ∃ t, s.Reads (before ++ [i]) t ∧ t.Offers ins rest ∧ t.fsm = .skip ∧
      t.budgetCnt.toNat = s.budgetCnt.toNat + before.length + 1 ∧
      t.buf[0] = s.params.startMarker ∧ t.params = s.params := by
  obtain ⟨u, hread, hoffers, hcounted⟩ :=
    h.countsAll (fun j hj => .inl ⟨hfsm, hbefore j hj⟩) (by omega)
  rw [← hcounted.params] at hmark
  obtain ⟨t, hread', hoffers', hfsm', hcount, hbuf, hparams⟩ :=
    hoffers.skips (hcounted.fsm.trans hfsm) hmark
      (by rwa [hcounted.budgetCnt, hcounted.params])
  rw [hcounted.budgetCnt] at hcount
  rw [hcounted.params] at hbuf hparams
  exact ⟨t, hread.append hread', hoffers', hfsm', hcount, hbuf, hparams⟩

/-- Success: non-markers, a marker, its duplicates and a non-marker within the budget
(40_frame_synchronizer.md R113). -/
theorem State.Offers.synchronizes {first last : Inputs}
    (h : s.Offers (before ++ first :: (marks ++ [last])) rest) (hfsm : s.fsm = .seek)
    (hbefore : ∀ j ∈ before, j.inData ≠ s.params.startMarker)
    (hfirst : first.inData = s.params.startMarker)
    (hmarks : ∀ j ∈ marks, j.inData = s.params.startMarker)
    (hlast : last.inData ≠ s.params.startMarker)
    (hbudget : s.budgetCnt.toNat + before.length + marks.length + 2 ≤ s.params.budget.toNat) :
    ∃ t, s.Reads (before ++ first :: (marks ++ [last])) t ∧ t.Offers [] rest ∧ t.fsm = .collect ∧
      t.budgetCnt.toNat = s.budgetCnt.toNat + before.length + marks.length + 2 ∧ t.colCnt = 2#5 ∧
      t.buf[1] = s.params.startMarker ∧ t.buf[0] = last.inData := by
  obtain ⟨u, hread, hoffers, hfsm, hcount, hbuf, hparams⟩ :=
    h.readsToSkip hfsm hbefore hfirst (by omega)
  rw [← hparams] at hmarks hlast hbudget hbuf
  obtain ⟨v, hread', hoffers', hcounted⟩ :=
    hoffers.countsAll (fun j hj => .inr ⟨hfsm, hmarks j hj⟩) (by omega)
  have hcount' := hcounted.budgetCnt
  rw [← hcounted.params] at hlast hbudget
  obtain ⟨t, hread'', hoffers'', hfsm', hcount'', hcol, hbuf', hbyte, -⟩ :=
    hoffers'.collects (hcounted.fsm.trans hfsm) hlast (by omega)
  refine ⟨t, ?_, hoffers'', hfsm', by omega, hcol, ?_, hbyte⟩
  · simpa using hread.append (hread'.append hread'')
  · rw [hbuf', hcounted.buf, hbuf, hparams]

/-- Failure: non-markers and then markers only, the last of them spending the budget
(40_frame_synchronizer.md R113). -/
theorem State.Offers.timesOut_of_no_content (h : s.Offers (before ++ marks) rest)
    (hfsm : s.fsm = .seek) (hne : before ++ marks ≠ [])
    (hbefore : ∀ j ∈ before, j.inData ≠ s.params.startMarker)
    (hmarks : ∀ j ∈ marks, j.inData = s.params.startMarker)
    (hspent : s.budgetCnt.toNat + before.length + marks.length = s.params.budget.toNat) :
    ∃ t, s.Reads (before ++ marks) t ∧ t.Offers [] rest ∧ t.TimedOut ∧ t.params = s.params := by
  match marks with
  | [] =>
    rw [List.append_nil] at h hne ⊢
    exact h.timesOut_of_onlyCounts hne (fun j hj => .inl ⟨hfsm, hbefore j hj⟩) hspent
  | [first] =>
    rw [List.length_singleton] at hspent
    obtain ⟨u, hread, hoffers, hcounted⟩ :=
      h.countsAll (fun j hj => .inl ⟨hfsm, hbefore j hj⟩) (by omega)
    have hcount := hcounted.budgetCnt
    rw [← hcounted.params] at hmarks hspent ⊢
    rw [← hcount] at hspent
    obtain ⟨t, hread', hoffers', htimedOut, hparams⟩ := hoffers.timesOut_at_marker
      (hcounted.fsm.trans hfsm) (hmarks first List.mem_cons_self) hspent
    exact ⟨t, hread.append hread', hoffers', htimedOut, hparams⟩
  | first :: second :: marks =>
    obtain ⟨hfirst, hothers⟩ := List.forall_mem_cons.mp hmarks
    simp only [List.length_cons] at hspent
    obtain ⟨u, hread, hoffers, hfsm, hcount, -, hparams⟩ :=
      h.readsToSkip hfsm hbefore hfirst (by omega)
    rw [← hparams] at hothers hspent ⊢
    obtain ⟨t, hread', hoffers', htimedOut, hparams'⟩ := hoffers.timesOut_of_onlyCounts
      (List.cons_ne_nil second marks) (fun j hj => .inr ⟨hfsm, hothers j hj⟩)
      (by rw [List.length_cons]; omega)
    exact ⟨t, by simpa using hread.append hread', hoffers', htimedOut, hparams'⟩

end

/-! ### The obligations -/

/-- Edges whose bytes are copies of one byte each offer that byte. -/
theorem inData_eq_of_map_eq_replicate {ins : List Inputs} {n : Nat} {b : Byte}
    (h : ins.map (·.inData) = List.replicate n b) : ∀ i ∈ ins, i.inData = b := fun _ hi =>
  List.eq_of_mem_replicate (h ▸ List.mem_map_of_mem (f := Inputs.inData) hi)

/-- Edges among whose bytes a byte is not found each offer another. -/
theorem inData_ne_of_notMem {ins : List Inputs} {bs : List Byte} {b : Byte}
    (h : ins.map (·.inData) = bs) (hb : b ∉ bs) : ∀ i ∈ ins, i.inData ≠ b := by
  rintro _ hi rfl
  exact hb (h ▸ List.mem_map_of_mem (f := Inputs.inData) hi)

/-- Settles O45: the edges fall into the non-markers, the first marker, its duplicates and the last byte. -/
theorem synchronizationSucceeds : Obligations.SynchronizationSucceeds := by
  rintro s ins rest pre m b ⟨hp, hfsm, hzero, -⟩ hupcoming hoffer hbytes hpre hb hbudget
  have hoffers : s.Offers ins rest := ⟨hp, hupcoming, hoffer⟩
  rw [List.replicate_succ, List.append_assoc, List.cons_append] at hbytes
  obtain ⟨before, ins, rfl, hbefore, hbytes⟩ := List.map_eq_append_iff.mp hbytes
  obtain ⟨first, ins, rfl, hfirst, hbytes⟩ := List.map_eq_cons_iff.mp hbytes
  obtain ⟨marks, ins, rfl, hmarks, hbytes⟩ := List.map_eq_append_iff.mp hbytes
  obtain ⟨last, rfl, rfl⟩ := List.map_eq_singleton_iff.mp hbytes
  have hlength : (before ++ first :: (marks ++ [last])).length =
      s.budgetCnt.toNat + before.length + marks.length + 2 := by
    simp [hzero, Nat.add_assoc]
  obtain ⟨t, hread, hend, hfsm', hcount, hcol, hmark, hbyte⟩ := hoffers.synchronizes hfsm
    (inData_ne_of_notMem hbefore hpre) hfirst (inData_eq_of_map_eq_replicate hmarks) hb
    (hlength ▸ hbudget)
  exact ⟨t, hread.run_eq, hfsm', hcount.trans hlength.symm, hcol, hmark, hbyte,
    hread.acceptedIn_eq, hend.upcoming⟩

/-- Settles O46: the edges fall into the non-markers and the markers. -/
theorem synchronizationTimesOutAtBudget : Obligations.SynchronizationTimesOutAtBudget := by
  rintro s ins rest pre m ⟨hp, hfsm, hzero, -⟩ hupcoming hoffer hbytes hpre hbudget
  have hoffers : s.Offers ins rest := ⟨hp, hupcoming, hoffer⟩
  have hne : ins ≠ [] := List.ne_nil_of_length_pos (hbudget ▸ Params.budget_pos hp)
  obtain ⟨before, marks, rfl, hbefore, hmarks⟩ := List.map_eq_append_iff.mp hbytes
  have hspent : s.budgetCnt.toNat + before.length + marks.length = s.params.budget.toNat := by
    simpa [hzero] using hbudget
  obtain ⟨t, hread, hend, ⟨hfsm', hres, hcount⟩, hparams⟩ := hoffers.timesOut_of_no_content hfsm hne
    (inData_ne_of_notMem hbefore hpre) (inData_eq_of_map_eq_replicate hmarks) hspent
  exact ⟨t, hread.run_eq, hfsm', hres, hparams ▸ hcount, hread.acceptedIn_eq, hend.upcoming⟩

end Sys2Proof.Machine
end

section
/-! PROOFS. The frame buffer (41_frame_reversal_buffer.md R130 to R134): what any number of shifts leaves in
it, which operations shift, and the operation that collects a byte. -/

namespace Sys2Proof.Machine

/-! ### Any number of shifts -/

/-- The buffer after the bytes `bs` are shifted in, the first one first. -/
def shiftInAll (v : Frame) (bs : List Byte) : Frame := bs.foldl (fun acc b => shiftIn b acc) v

theorem shiftInAll_append (v : Frame) (bs bs' : List Byte) :
    shiftInAll v (bs ++ bs') = shiftInAll (shiftInAll v bs) bs' :=
  List.foldl_append

/-- The bytes shifted in stand at the low end of the buffer, the latest at 0. -/
theorem shiftInAll_getElem (v : Frame) (bs : List Byte) {k : Nat} (hk : k < 16)
    (hlen : k < bs.reverse.length) : (shiftInAll v bs)[k] = bs.reverse[k] := by
  induction bs using List.reverseRecOn generalizing k with
  | nil => simp at hlen
  | append_singleton bs b ih =>
    have hlast : shiftInAll v (bs ++ [b]) = shiftIn b (shiftInAll v bs) := shiftInAll_append v bs [b]
    simp only [hlast, List.reverse_append, List.reverse_singleton, List.singleton_append,
      List.length_cons] at hlen ⊢
    cases k with
    | zero => exact shiftIn_zero b _
    | succ k => exact (shiftIn_succ b _ k hk).trans (ih (by omega) (Nat.lt_of_succ_lt_succ hlen))

/-- The wire-to-logical order, byte by byte (00_scope.md R9). -/
theorem reverseFrame_getElem (w : Frame) {k : Nat} (hk : k < 16) :
    (reverseFrame w)[k] = w[15 - k] := by
  interval_cases k <;> rfl

/-- Sixteen shifts replace the whole buffer by the reversed frame (41_frame_reversal_buffer.md R133). -/
theorem shiftInAll_frame (v w : Frame) : shiftInAll v w.toList = reverseFrame w := by
  ext k hk
  rw [shiftInAll_getElem v w.toList hk (by simpa using hk), reverseFrame_getElem w hk]
  simp [List.getElem_reverse]

/-- Settles O34: the buffer after sixteen shifts is the reversed frame. -/
theorem sixteenShiftsReverseFrame : Obligations.SixteenShiftsReverseFrame := by
  intro v w k
  change (shiftInAll v w.toList)[k.val] = _
  rw [shiftInAll_frame]
  exact reverseFrame_getElem w k.isLt

/-! ### Which operations shift -/

theorem State.spendByte_buf (s : State) : s.spendByte.buf = s.buf := by
  rcases s.spendByte_cases with ⟨-, hspend⟩ | ⟨-, hspend⟩ <;> rw [hspend]

theorem State.release_buf (s : State) : s.release.buf = s.buf := by
  rcases s.release_cases with ⟨-, hrel⟩ | ⟨-, -, hrel⟩ | ⟨-, -, -, hrel⟩ <;> rw [hrel]

/-- The marker outcome says which byte is sampled (40_frame_synchronizer.md R100). -/
theorem State.inData_of_outcome_mark {s : State} (hout : s.outcome = .mark) :
    s.sample.inData = s.params.startMarker := by
  obtain ⟨-, hseen⟩ := readOutcome_eq_mark_iff.mp hout
  exact beq_iff_eq.mp hseen

/-- Outside reset an operation leaves the buffer alone, or it is one of the three that shift the sampled
byte in (41_frame_reversal_buffer.md R131, R132). -/
theorem exec_buf {s u : State} {i : Instr} (hsel : s.Selects i) (hrst : s.sample.rst = false)
    (hexec : exec i s = .next u) :
    u.buf = s.buf ∨ u.buf = shiftIn s.sample.inData s.buf ∧
      (i = .seekMark ∧ s.sample.inData = s.params.startMarker ∨ i = .skipOther ∨
        i = .collectByte) := by
  cases i
  case reset => simp [State.Selects, hrst] at hsel
  case seekMark =>
    obtain ⟨-, -, hout⟩ := hsel
    have hmark := State.inData_of_outcome_mark hout
    by_cases hspent : s.nextCount = s.params.budget
    · cases (exec_seekMark_of_spent hspent).symm.trans hexec
      exact .inl rfl
    · cases (exec_seekMark_of_unspent hspent).symm.trans hexec
      exact .inr ⟨by simp [hmark], .inl ⟨rfl, hmark⟩⟩
  all_goals cases hexec
  case skipOther => exact .inr ⟨rfl, .inr (.inl rfl)⟩
  case collectByte => exact .inr ⟨rfl, .inr (.inr rfl)⟩
  case seekOther | skipMark => exact .inl s.spendByte_buf
  case emitRelease => exact .inl s.release_buf
  all_goals exact .inl rfl

/-- Settles O33: the edge adds nothing to what the operation did to the buffer, and the three operations
that shift accept the byte they read. -/
theorem bufferWrittenOnlyByShiftIn : Obligations.BufferWrittenOnlyByShiftIn := by
  refine ⟨fun s b => ⟨shiftedIn_shiftIn b s.buf, rfl⟩, fun s t hstep hrst => ?_⟩
  obtain ⟨-, i, u, hsel, hexec, rfl⟩ := step_next_selects hstep
  obtain rfl := State.decode_of_selects hsel
  rcases exec_buf hsel hrst hexec with hkept | ⟨hshifted, hop⟩
  · exact .inl hkept
  · obtain ⟨haccepts, -⟩ := transfersHappenInTheirOperations s
    have hbyte : s.acceptedByte = some s.sample.inData := (haccepts _).mpr ⟨rfl, by tauto⟩
    refine .inr ⟨?_, hbyte, hop⟩
    rw [State.clockEdge_buf, hshifted]
    exact shiftedIn_shiftIn _ _

/-! ### COLLECT.BYTE -/

/-- COLLECT.BYTE is selected by any byte in COLLECT (41_frame_reversal_buffer.md R140). -/
theorem State.selects_collectByte {s : State} (hrst : s.sample.rst = false) (hfsm : s.fsm = .collect)
    (hvalid : s.sample.inValid = true) : s.Selects .collectByte :=
  ⟨hrst, hfsm, s.outcome_byte_iff.mpr hvalid⟩

/-- The sixteenth byte leads to DECODE (41_frame_reversal_buffer.md R134). -/
theorem exec_collectByte_of_last {s : State} (h : s.colCnt.toNat + 1 = 16) :
    exec .collectByte s = .next
      { s.shiftIn s.sample.inData with colCnt := s.colCnt + 1#5, fsm := .decode } := by
  have hlast : s.colCnt + 1#5 = 16#5 := by bv_omega
  simp [hlast]

/-- Before the sixteenth byte COLLECT goes on (41_frame_reversal_buffer.md R134). -/
theorem exec_collectByte_of_not_last {s : State} (h : s.colCnt.toNat + 1 ≠ 16) :
    exec .collectByte s = .next
      { s.shiftIn s.sample.inData with colCnt := s.colCnt + 1#5 } := by
  have hnotLast : s.colCnt + 1#5 ≠ 16#5 := by bv_omega
  simp [hnotLast, State.shiftIn]

/-- Settles O18: the operation's answer at the sixteenth byte and before it. -/
theorem collectByteFillsBuffer : Obligations.CollectByteFillsBuffer := by
  intro s hp hfsm hrst hvalid _
  have hsel := State.selects_collectByte hrst hfsm hvalid
  have haccept := State.acceptedByte_of_valid (s.inReady_iff.mpr (.inr (.inr hfsm))) hrst hvalid
  by_cases hlast : s.colCnt.toNat + 1 = 16
  · have hexec := exec_collectByte_of_last hlast
    exact ⟨_, hexec, State.stepsBy_of_selects hp hrst hsel hexec, haccept, fun _ => rfl,
      fun hnotLast => absurd hlast hnotLast, shiftedIn_shiftIn _ _⟩
  · have hexec := exec_collectByte_of_not_last hlast
    exact ⟨_, hexec, State.stepsBy_of_selects hp hrst hsel hexec, haccept,
      fun hlast' => absurd hlast' hlast, fun _ => rfl, shiftedIn_shiftIn _ _⟩

end Sys2Proof.Machine
end

section
/-! PROOFS. An aligned frame on a source that offers a byte at every edge (41_frame_reversal_buffer.md R133,
44_frame_decoder_fsm.md R204): every one of its bytes is kept, so the buffer that DECODE reads is the
reversed frame. -/

namespace Sys2Proof.Machine

/-! ### What follows a run that reads a byte at every edge -/

theorem State.Reads.run_add {s t : State} {ins : List Inputs} (h : s.Reads ins t) (n : Nat) :
    Host.Core.run Sys2Proof.core (ins.length + n) s = Host.Core.run Sys2Proof.core n t := by
  induction h with
  | nil => rw [List.length_nil, Nat.zero_add]
  | cons hstep _ _ ih =>
    rw [List.length_cons, Nat.succ_add]
    exact (run_succ_of_step _ hstep).trans ih

theorem State.Reads.acceptedIn_add {s t : State} {ins : List Inputs} (h : s.Reads ins t) (n : Nat) :
    acceptedIn (ins.length + n) s = ins.map (·.inData) ++ acceptedIn n t := by
  induction h with
  | nil => simp
  | cons hstep hbyte _ ih => simp [Nat.succ_add, acceptedIn, hstep, hbyte, ih]

/-- Outside EMIT nothing is handed over (10_state.md R40). -/
theorem State.handedOver_of_fsm_ne_emit {s : State} (h : s.fsm ≠ .emit) : s.handedOver = none := by
  simp [State.handedOver, State.outValid, h]

/-- A step that accepts a byte hands nothing over (10_state.md R41). -/
theorem State.handedOver_of_acceptedByte {s : State} {b : Byte} (h : s.acceptedByte = some b) :
    s.handedOver = none := by
  obtain ⟨-, -, hready, -⟩ := (s.acceptedByte_eq_some_iff b).mp h
  apply State.handedOver_of_fsm_ne_emit
  rcases s.inReady_iff.mp hready with hfsm | hfsm | hfsm <;> simp [hfsm]

theorem State.Reads.handedIn_add {s t : State} {ins : List Inputs} (h : s.Reads ins t) (n : Nat) :
    handedIn (ins.length + n) s = handedIn n t := by
  induction h with
  | nil => simp
  | cons hstep hbyte _ ih =>
    simp [Nat.succ_add, handedIn, hstep, State.handedOver_of_acceptedByte hbyte, ih]

/-! ### Runs that keep every byte -/

/-- A run from `s` to `t` that reads a byte at every edge and shifts each one in. -/
structure State.Keeps (s : State) (ins : List Inputs) (t : State) : Prop where
  reads : s.Reads ins t
  buf : t.buf = shiftInAll s.buf (ins.map (·.inData))
  params : t.params = s.params

theorem State.Keeps.append {s u t : State} {ins ins' : List Inputs} (h : s.Keeps ins u)
    (h' : u.Keeps ins' t) : s.Keeps (ins ++ ins') t where
  reads := h.reads.append h'.reads
  buf := by rw [h'.buf, h.buf, List.map_append, shiftInAll_append]
  params := h'.params.trans h.params

/-- Sixteen bytes that are all kept leave the reversed frame (41_frame_reversal_buffer.md R133). -/
theorem State.Keeps.buf_eq_reverseFrame {s t : State} {ins : List Inputs} {w : Frame}
    (h : s.Keeps ins t) (hbytes : ins.map (·.inData) = w.toList) : t.buf = reverseFrame w := by
  rw [h.buf, hbytes, shiftInAll_frame]

/-- `n` more bytes complete the frame: COLLECT holds the others, or DECODE all sixteen
(41_frame_reversal_buffer.md R136). -/
def State.Lacks (s : State) (n : Nat) : Prop :=
  s.colCnt.toNat + n = 16 ∧ s.fsm = if n = 0 then .decode else .collect

section
variable {s u : State} {i : Inputs} {ins rest : List Inputs} {op : Instr}

/-- The operation that a waiting state selects keeps the byte of the coming edge if it shifts it in. -/
theorem State.Offers.keeps (h : s.Offers (i :: ins) rest) (hready : s.inReady = true)
    (hsel : s.Selects op) (hexec : exec op s = .next u)
    (hbuf : u.buf = Machine.shiftIn s.sample.inData s.buf) (hparams : u.params = s.params) :
    s.Keeps [i] (s.clockEdge u) where
  reads := h.reads hready hsel hexec
  buf := by rw [State.clockEdge_buf, hbuf, h.sample_eq]; rfl
  params := hparams

/-- With budget left after it, the first marker is kept (40_frame_synchronizer.md R102). -/
theorem State.Offers.keepsMarker (h : s.Offers (i :: ins) rest) (hfsm : s.fsm = .seek)
    (hmark : i.inData = s.params.startMarker)
    (hleft : s.budgetCnt.toNat + 1 < s.params.budget.toNat) :
    ∃ t, s.Keeps [i] t ∧ t.Offers ins rest ∧ t.fsm = .skip := by
  have hexec := exec_seekMark_of_unspent (State.nextCount_ne_budget hleft)
  have hkeep := h.keeps (s.inReady_iff.mpr (.inl hfsm)) (h.selects_seekMark hfsm hmark) hexec
    (by simp [h.sample_eq, hmark]) rfl
  exact ⟨_, hkeep, h.clockEdge rfl, rfl⟩

/-- The first content byte is kept, and fourteen more complete the frame (40_frame_synchronizer.md
R109). -/
theorem State.Offers.keepsContent (h : s.Offers (i :: ins) rest) (hfsm : s.fsm = .skip)
    (hother : i.inData ≠ s.params.startMarker) :
    ∃ t, s.Keeps [i] t ∧ t.Offers ins rest ∧ t.Lacks 14 := by
  have hkeep := h.keeps (s.inReady_iff.mpr (.inr (.inl hfsm))) (h.selects_skipOther hfsm hother)
    (exec_skipOther s) rfl rfl
  exact ⟨_, hkeep, h.clockEdge rfl, rfl, rfl⟩

/-- Any byte in COLLECT is kept, and one fewer completes the frame (41_frame_reversal_buffer.md R134). -/
theorem State.Offers.keepsCollected {n : Nat} (h : s.Offers (i :: ins) rest) (hlacks : s.Lacks (n + 1)) :
    ∃ t, s.Keeps [i] t ∧ t.Offers ins rest ∧ t.Lacks n := by
  obtain ⟨hcol, hfsm⟩ := hlacks
  rw [if_neg n.succ_ne_zero] at hfsm
  obtain ⟨hrst, hvalid⟩ := h.sample_offersByte
  have hready := s.inReady_iff.mpr (.inr (.inr hfsm))
  have hsel := State.selects_collectByte hrst hfsm hvalid
  have hcol' : (s.colCnt + 1#5).toNat + n = 16 := by bv_omega
  cases n with
  | zero =>
    have hkeep := h.keeps hready hsel (exec_collectByte_of_last hcol) rfl rfl
    exact ⟨_, hkeep, h.clockEdge rfl, hcol', rfl⟩
  | succ n =>
    have hkeep := h.keeps hready hsel (exec_collectByte_of_not_last (by omega)) rfl rfl
    exact ⟨_, hkeep, h.clockEdge rfl, hcol', hfsm⟩

end

/-- The bytes that complete the frame are all kept (41_frame_reversal_buffer.md R136). -/
theorem State.Offers.keepsAllCollected {s : State} {ins rest : List Inputs} (h : s.Offers ins rest)
    (hlacks : s.Lacks ins.length) : ∃ t, s.Keeps ins t ∧ t.Offers [] rest ∧ t.Lacks 0 := by
  induction ins generalizing s with
  | nil => exact ⟨s, ⟨.nil s, rfl, rfl⟩, h, hlacks⟩
  | cons i ins ih =>
    obtain ⟨u, hkeep, hoffers, hlacks'⟩ := State.Offers.keepsCollected h hlacks
    obtain ⟨t, hkeep', hend⟩ := ih hoffers hlacks'
    exact ⟨t, hkeep.append hkeep', hend⟩

/-! ### The frame and its decode -/

/-- A marker, another byte and fourteen more from SEEK are all kept and lead to DECODE
(41_frame_reversal_buffer.md R132). -/
theorem State.Offers.keepsFrame {s : State} {first second : Inputs} {ins rest : List Inputs}
    (h : s.Offers (first :: second :: ins) rest) (hfsm : s.fsm = .seek)
    (hfirst : first.inData = s.params.startMarker) (hsecond : second.inData ≠ s.params.startMarker)
    (hlength : ins.length = 14) (hleft : s.budgetCnt.toNat + 1 < s.params.budget.toNat) :
    ∃ t, s.Keeps (first :: second :: ins) t ∧ t.Offers [] rest ∧ t.fsm = .decode := by
  obtain ⟨u, hkeep, hoffers, hskip⟩ := h.keepsMarker hfsm hfirst hleft
  rw [← hkeep.params] at hsecond
  obtain ⟨v, hkeep', hoffers', hlacks⟩ := hoffers.keepsContent hskip hsecond
  obtain ⟨t, hkeep'', hend, -, hdecode⟩ := hoffers'.keepsAllCollected (hlength.symm ▸ hlacks)
  exact ⟨t, hkeep.append (hkeep'.append hkeep''), hend, hdecode⟩

/-- DECODE captures DEC of the buffer and transfers nothing (44_frame_decoder_fsm.md R204). -/
theorem step_of_decode {s : State} (hp : s.params.wellFormed = true) (hrst : s.sample.rst = false)
    (hfsm : s.fsm = .decode) :
    step s = .next (s.clockEdge (s.finish (dec s.params s.buf))) ∧ s.acceptedByte = none ∧
      s.handedOver = none :=
  have hsel : s.Selects .decodeFrame := ⟨hrst, hfsm⟩
  ⟨step_of_selects hp hsel (exec_decodeFrame s),
    State.acceptedByte_of_not_ready (by simp [State.inReady, hfsm]),
    State.handedOver_of_fsm_ne_emit (by simp [hfsm])⟩

/-- Sixteen edges whose bytes are a frame: the first two, and fourteen more. -/
theorem exists_cons_cons_of_map_eq_frame {ins : List Inputs} {w : Frame}
    (h : ins.map (·.inData) = w.toList) :
    ∃ first second more, ins = first :: second :: more ∧ more.length = 14 ∧
      first.inData = w[0] ∧ second.inData = w[1] := by
  have hlength : ins.length = 16 := by simpa using congrArg List.length h
  match ins, hlength with
  | first :: second :: more, hlength =>
    have hfirst := congrArg (·[0]?) h
    have hsecond := congrArg (·[1]?) h
    exact ⟨first, second, more, rfl, by simpa using hlength, by simpa using hfirst,
      by simpa using hsecond⟩

/-- An aligned frame, a byte at every edge, from a fresh iteration: seventeen steps lead to EMIT, with the
reversed frame in the buffer and its DEC held (70_reset_and_hazards.md R290). -/
theorem State.Fresh.decodesAlignedFrame {s : State} {ins rest : List Inputs} {last : Inputs} {w : Frame}
    (hfresh : s.Fresh) (hbudget : 2 ≤ s.params.budget.toNat)
    (hupcoming : s.upcoming = ins ++ last :: rest)
    (hoffer : ∀ i ∈ ins, i.offersByte) (hrst : last.rst = false)
    (hbytes : ins.map (·.inData) = w.toList) (hmark : w[0] = s.params.startMarker)
    (hother : w[1] ≠ s.params.startMarker) :
    ∃ t : State, Host.Core.run Sys2Proof.core 17 s = .next t ∧
      t.fsm = .emit ∧ t.buf = reverseFrame w ∧ t.res = dec s.params (reverseFrame w) ∧
      acceptedIn 17 s = w.toList ∧ handedIn 17 s = [] ∧ t.upcoming = rest := by
  obtain ⟨hp, hfsm, hzero, -⟩ := hfresh
  have hlength : ins.length + 1 = 17 := by simpa using congrArg List.length hbytes
  have hoffers : s.Offers ins (last :: rest) := ⟨hp, hupcoming, hoffer⟩
  obtain ⟨u, hkeep, hend, hdecode⟩ :
      ∃ u, s.Keeps ins u ∧ u.Offers [] (last :: rest) ∧ u.fsm = .decode := by
    obtain ⟨first, second, more, rfl, hmore, hfirst, hsecond⟩ :=
      exists_cons_cons_of_map_eq_frame hbytes
    exact hoffers.keepsFrame hfsm (hfirst.trans hmark) (hsecond ▸ hother) hmore
      (by simpa [hzero] using Nat.lt_of_succ_le hbudget)
  have hbuf := hkeep.buf_eq_reverseFrame hbytes
  have hupcoming' : u.upcoming = last :: rest := hend.upcoming
  obtain ⟨hstep, haccept, hhanded⟩ :=
    step_of_decode hend.legal (State.sample_of_upcoming hupcoming' ▸ hrst) hdecode
  rw [← hlength, hkeep.reads.run_add, hkeep.reads.acceptedIn_add, hkeep.reads.handedIn_add, hbytes]
  refine ⟨_, run_succ_of_step 0 hstep, rfl, hbuf, ?_, ?_, ?_, ?_⟩
  · simp [hkeep.params, hbuf]
  · simp [acceptedIn, hstep, haccept]
  · simp [handedIn, hstep, hhanded]
  · simp [hupcoming']

/-- Settles O47: the buffer that DECODE reads is the reversed frame. -/
theorem alignedFrameIsDecoded : Obligations.AlignedFrameIsDecoded := by
  intro s ins rest last w hfresh hbudget hupcoming hoffer hrst hbytes hmark hother
  obtain ⟨t, hrun, hfsm, -, hres, haccepted, hhanded, hrest⟩ :=
    hfresh.decodesAlignedFrame hbudget hupcoming hoffer hrst hbytes hmark hother
  exact ⟨t, hrun, hfsm, hres, haccepted, hhanded, hrest⟩

end Sys2Proof.Machine
end

section
/-! PROOFS. The parser against ENC (42_field_parser.md R159, R165), the READING of valid fields and its round
trip through DEC and through the core (R167), and the formatter (R166). -/

namespace Sys2Proof.Machine

/-! ### PARSE and ENC -/

/-- The wire-to-logical order is its own inverse (00_scope.md R9). -/
@[simp] theorem reverseFrame_reverseFrame (w : Frame) : reverseFrame (reverseFrame w) = w := by
  ext k hk
  rw [reverseFrame_getElem _ hk, reverseFrame_getElem w (by omega)]
  simp only [show 15 - (15 - k) = k by omega]

/-- ENC of PARSE is the frame in wire order: PARSE drops no byte (42_field_parser.md R159). -/
theorem wire_parse (l : Frame) : (parse l).wire = reverseFrame l := rfl

/-- The digits are read back in the order in which ENC wrote them (42_field_parser.md R152). -/
theorem parse_reverseFrame_wire_digits (f : ParsedFields) :
    (parse (reverseFrame f.wire)).digits = f.digits := by
  ext k hk
  interval_cases k <;> rfl

/-- PARSE of the logical frame of ENC gives the record back (42_field_parser.md R165). -/
@[simp] theorem parse_reverseFrame_wire (f : ParsedFields) : parse (reverseFrame f.wire) = f :=
  congrArg (fun digits => { f with digits }) (parse_reverseFrame_wire_digits f)

/-- Settles O35: ENC of PARSE is the frame reversed, and reversing it again gives the frame. -/
theorem parseInvertsEncode : Obligations.ParseInvertsEncode :=
  ⟨parse_reverseFrame_wire, fun l => by rw [wire_parse, reverseFrame_reverseFrame]⟩

/-! ### The READING of valid fields -/

/-- Every entry below the index of LOOKUP differs from the code (43_lookup_validator.md R182); without a hit
the index is 0. -/
theorem getElem_ne_of_lt_romIndex {rom : Vector Code16 16} {c : Code16} {j : Fin 16}
    (h : j.val < (romIndex rom c).toNat) : rom[j] ≠ c := by
  by_cases hhit : romHit rom c = true
  · rw [romIndex, if_pos hhit, BitVec.toNat_ofNat] at h
    have hmiss : (c == rom[j.val]) = false := by
      simpa [romMatches] using List.not_of_lt_findIdx (h.trans_le (Nat.mod_le _ _))
    exact (ne_of_beq_false hmiss).symm
  · simp [romIndex, hhit] at h

/-- The annunciator check passes the codes in the ROM (43_lookup_validator.md R186). -/
theorem annOk_iff (p : Params) (f : ParsedFields) :
    annOk p f = true ↔ ∃ i : Fin 16, p.annCode[i] = f.code16 := by
  rw [annOk, romHit_iff, Vector.mem_iff_getElem]
  exact ⟨fun ⟨i, hi, heq⟩ => ⟨⟨i, hi⟩, heq⟩, fun ⟨i, heq⟩ => ⟨i, i.isLt, heq⟩⟩

/-- The valid fields are those that pass all five checks (43_lookup_validator.md R183 to R187). -/
theorem ParsedFields.valid_iff (p : Params) (f : ParsedFields) :
    f.Valid p ↔ endOk p f = true ∧ startOk p f = true ∧ dpOk f = true ∧ annOk p f = true ∧
      dispOk f = true := by
  rw [dpOk_iff, annOk_iff, dispOk_iff, endOk, startOk, beq_iff_eq, beq_iff_eq]
  rfl

/-- The decimal point of a character that passes its check (42_field_parser.md R153). -/
theorem ParsedFields.dp2_toNat {f : ParsedFields} (h : dpOk f = true) :
    f.dp2.toNat = f.dpRaw.toNat - 0x30 := by
  rw [dpOk_iff] at h
  simp only [ParsedFields.dp2, BitVec.toNat_setWidth]
  bv_omega

/-- The display id of a character that passes its check (42_field_parser.md R156). -/
theorem ParsedFields.disp3_toNat {f : ParsedFields} (h : dispOk f = true) :
    f.disp3.toNat = f.dispRaw.toNat - 0x30 := by
  rw [dispOk_iff] at h
  simp only [ParsedFields.disp3, BitVec.toNat_setWidth]
  bv_omega

/-- The polarity is negative for every character but '0' (42_field_parser.md R154). -/
theorem ParsedFields.neg1_eq (f : ParsedFields) : f.neg1 = decide (f.polRaw ≠ 0x30#8) := by
  rw [ParsedFields.neg1, bne, beq_eq_decide, decide_not]

/-- The READING that DEC forms has the payload of valid fields (30_encoding.md R86). -/
theorem ParsedFields.Valid.isReadingOf {p : Params} {f : ParsedFields} (h : f.Valid p) :
    (Result.reading p f).IsReadingOf p f := by
  obtain ⟨-, -, hdp, hann, hdisp⟩ := (f.valid_iff p).mp h
  exact ⟨rfl, rfl, ParsedFields.dp2_toNat hdp, f.neg1_eq, ParsedFields.disp3_toNat hdisp, rfl,
    getElem_romIndex hann, fun _ => getElem_ne_of_lt_romIndex, rfl, rfl, rfl⟩

/-- A frame of valid fields passes every check of DEC (43_lookup_validator.md R188). -/
theorem dec_of_valid {p : Params} {l : Frame} (h : (parse l).Valid p) :
    dec p l = Result.reading p (parse l) := by
  obtain ⟨hend, hstart, hdp, hann, hdisp⟩ := ((parse l).valid_iff p).mp h
  simp [dec, hend, hstart, hdp, hann, hdisp]

/-- Settles O39: PARSE gives the valid fields back, so DEC answers their READING. -/
theorem decodeOfEncodedFieldsIsReading : Obligations.DecodeOfEncodedFieldsIsReading := by
  intro p f hvalid
  have hparse := parse_reverseFrame_wire f
  have hdec : dec p (reverseFrame f.wire) = Result.reading p f := by
    rw [dec_of_valid (hparse.symm ▸ hvalid), hparse]
  exact ⟨hdec ▸ hvalid.isReadingOf, hparse⟩

/-! ### The round trip through the core -/

/-- Settles O48: the encoded frame is aligned, its first byte the start marker and its second `d14`, so
what the core captures is DEC of its logical frame. -/
theorem encodedFrameRoundTripsThroughStream : Obligations.EncodedFrameRoundTripsThroughStream := by
  intro s f hfresh hvalid
  obtain ⟨hreading, hparse⟩ := decodeOfEncodedFieldsIsReading s.params f hvalid
  refine ⟨hreading, hparse, fun hd14 hbudget ins rest last hupcoming hoffer hrst hbytes => ?_⟩
  obtain ⟨-, hstart, -⟩ := hvalid
  have hfirst : f.wire[0] = s.params.startMarker := hstart
  have hsecond : f.wire[1] ≠ s.params.startMarker := hd14
  obtain ⟨t, hrun, hfsm, hbuf, hres, haccepted, -, -⟩ :=
    hfresh.decodesAlignedFrame hbudget hupcoming hoffer hrst hbytes hfirst hsecond
  exact ⟨t, hrun, hfsm, hres ▸ hreading, hbuf ▸ hparse, haccepted⟩

/-! ### The formatter -/

/-- The characters of eight digits are these digits (42_field_parser.md R152, R166). -/
theorem Result.digitChars_of_digits {r : Result} {d0 d1 d2 d3 d4 d5 d6 d7 : Byte}
    (h : r.digits = d0 ++ d1 ++ d2 ++ d3 ++ d4 ++ d5 ++ d6 ++ d7) :
    r.digitChars = [d0, d1, d2, d3, d4, d5, d6, d7] := by
  simp [Result.digitChars, h, BitVec.extractLsb'_append_eq_of_le,
    BitVec.extractLsb'_append_eq_right, -Nat.reduceAdd]

/-- Without a decimal point the body is the characters (42_field_parser.md R166). -/
theorem Result.fmtBody_of_dp_eq_zero {r : Result} (h : r.dp = 0#2) : r.fmtBody = r.digitChars :=
  if_pos (beq_iff_eq.mpr h)

/-- With a decimal point the separator stands `res_dp` characters from the right (42_field_parser.md R166). -/
theorem Result.fmtBody_of_dp_ne_zero {r : Result} (h : r.dp ≠ 0#2) :
    r.fmtBody =
      r.digitChars.take (8 - r.dp.toNat) ++ 0x2E#8 :: r.digitChars.drop (8 - r.dp.toNat) :=
  if_neg (fun hdp => h (beq_iff_eq.mp hdp))

/-- Settles O40: the body by the value of `res_dp`, the sign by that of `res_neg`. -/
theorem formatterPlacesSignAndSeparator : Obligations.FormatterPlacesSignAndSeparator := by
  intro r d0 d1 d2 d3 d4 d5 d6 d7 hdigits
  have hchars := Result.digitChars_of_digits hdigits
  refine ⟨fun hdp => ?_, fun hdp => ?_, fun hdp => ?_, fun hdp => ?_, fun hneg => ?_, fun hneg => ?_⟩
  · rw [Result.fmtBody_of_dp_eq_zero hdp, hchars]
  · simp [Result.fmtBody_of_dp_ne_zero, hdp, hchars]
  · simp [Result.fmtBody_of_dp_ne_zero, hdp, hchars]
  · simp [Result.fmtBody_of_dp_ne_zero, hdp, hchars]
  · simp [Result.fmt, hneg]
  · simp [Result.fmt, hneg]

end Sys2Proof.Machine
end

section
/-! PROOFS. LOOKUP in the annunciator ROM (43_lookup_validator.md R181, R182), the order in which DEC reports
the failing checks (R188), and that a failing check never gives a READING (R190). -/

namespace Sys2Proof.Machine

/-! ### LOOKUP -/

/-- LOOKUP hits exactly when the code stands at some index (43_lookup_validator.md R181). -/
theorem romHit_iff_exists_index (rom : Vector Code16 16) (c : Code16) :
    romHit rom c = true ↔ ∃ i : Fin 16, rom[i] = c := by
  rw [romHit_iff, Vector.mem_iff_getElem, Fin.exists_iff]
  rfl

/-- Without a hit the index is 0 (43_lookup_validator.md R182). -/
theorem romIndex_of_romHit_eq_false {rom : Vector Code16 16} {c : Code16} (h : romHit rom c = false) :
    romIndex rom c = 0#4 := by
  simp [romIndex, h]

/-- Settles O36: the entry at the index equals the code, and every entry below it differs. -/
theorem lookupGivesLowestIndex : Obligations.LookupGivesLowestIndex := fun rom c =>
  ⟨romHit_iff_exists_index rom c,
    fun hhit => ⟨getElem_romIndex hhit, fun _ => getElem_ne_of_lt_romIndex⟩,
    romIndex_of_romHit_eq_false⟩

/-! ### The checks of DEC in step order -/

/-- The end word check passes the end marker (43_lookup_validator.md R183). -/
theorem endOk_iff (p : Params) (f : ParsedFields) : endOk p f = true ↔ f.endWord = p.endMarker :=
  beq_iff_eq

/-- The start word check passes the start marker (43_lookup_validator.md R184). -/
theorem startOk_iff (p : Params) (f : ParsedFields) :
    startOk p f = true ↔ f.startWord = p.startMarker :=
  beq_iff_eq

section FirstFailedCheck

variable {p : Params} {l : Frame}

/-- Step 1: a wrong end word is reported whatever else fails (43_lookup_validator.md R188). -/
theorem dec_of_endWord_ne (hend : (parse l).endWord ≠ p.endMarker) :
    dec p l = Result.terminatorMismatch 1#3 (parse l).endWord := by
  rw [ne_eq, ← endOk_iff] at hend
  simp [dec, hend]

/-- Step 1: a wrong start word is reported where the end word is right (43_lookup_validator.md R188). -/
theorem dec_of_startWord_ne (hend : (parse l).endWord = p.endMarker)
    (hstart : (parse l).startWord ≠ p.startMarker) :
    dec p l = Result.terminatorMismatch 2#3 (parse l).startWord := by
  rw [← endOk_iff] at hend
  rw [ne_eq, ← startOk_iff] at hstart
  simp [dec, hend, hstart]

/-- Step 4: a decimal point out of range is reported behind right markers (43_lookup_validator.md R188). -/
theorem dec_of_dpRaw_out_of_range (hend : (parse l).endWord = p.endMarker)
    (hstart : (parse l).startWord = p.startMarker)
    (hdp : ¬ (0x30 ≤ (parse l).dpRaw.toNat ∧ (parse l).dpRaw.toNat ≤ 0x33)) :
    dec p l = Result.fieldRange 3#3 (parse l).dpRaw := by
  rw [← endOk_iff] at hend
  rw [← startOk_iff] at hstart
  rw [← dpOk_iff] at hdp
  simp [dec, hend, hstart, hdp]

/-- Step 6: a code outside the ROM is reported behind a decimal point in range
(43_lookup_validator.md R188). -/
theorem dec_of_code16_not_in_rom (hend : (parse l).endWord = p.endMarker)
    (hstart : (parse l).startWord = p.startMarker)
    (hdp : 0x30 ≤ (parse l).dpRaw.toNat ∧ (parse l).dpRaw.toNat ≤ 0x33)
    (hcode : ∀ i : Fin 16, p.annCode[i] ≠ (parse l).code16) :
    dec p l = Result.unknownCode (parse l).code16 := by
  rw [← endOk_iff] at hend
  rw [← startOk_iff] at hstart
  rw [← dpOk_iff] at hdp
  have hann : ¬ annOk p (parse l) = true := mt (annOk_iff p _).mp (not_exists.mpr hcode)
  simp [dec, hend, hstart, hdp, hann]

/-- Step 7: a display id out of range is reported where all else is right (43_lookup_validator.md R188). -/
theorem dec_of_dispRaw_out_of_range (hend : (parse l).endWord = p.endMarker)
    (hstart : (parse l).startWord = p.startMarker)
    (hdp : 0x30 ≤ (parse l).dpRaw.toNat ∧ (parse l).dpRaw.toNat ≤ 0x33)
    (hann : ∃ i : Fin 16, p.annCode[i] = (parse l).code16)
    (hdisp : ¬ (0x31 ≤ (parse l).dispRaw.toNat ∧ (parse l).dispRaw.toNat ≤ 0x34)) :
    dec p l = Result.fieldRange 4#3 (parse l).dispRaw := by
  rw [← endOk_iff] at hend
  rw [← startOk_iff] at hstart
  rw [← dpOk_iff] at hdp
  rw [← annOk_iff] at hann
  rw [← dispOk_iff] at hdisp
  simp [dec, hend, hstart, hdp, hann, hdisp]

/-- DEC of a frame of valid fields is their READING (43_lookup_validator.md R188). -/
theorem dec_isReadingOf_parse (h : (parse l).Valid p) : (dec p l).IsReadingOf p (parse l) :=
  dec_of_valid h ▸ h.isReadingOf

end FirstFailedCheck

/-- Settles O37: a clause per check, each behind the checks before it, and the READING behind all five. -/
theorem decReportsFirstFailedCheck : Obligations.DecReportsFirstFailedCheck := by
  intro p l
  refine ⟨dec_of_endWord_ne, dec_of_startWord_ne, dec_of_dpRaw_out_of_range, ?_, ?_, ?_⟩
  · intro hend hstart hlo hhi hcode
    exact dec_of_code16_not_in_rom hend hstart ⟨hlo, hhi⟩ hcode
  · intro hend hstart hlo hhi hann hdisp
    exact dec_of_dispRaw_out_of_range hend hstart ⟨hlo, hhi⟩ hann hdisp
  · intro hend hstart hlo hhi hann hone hfour
    exact dec_isReadingOf_parse ⟨hend, hstart, ⟨hlo, hhi⟩, hann, hone, hfour⟩

/-! ### No fabricated READING -/

/-- An error of the checks: kind 3, 4 or 5, and no register but kind, field and value in use
(30_encoding.md R86). -/
def Result.IsCheckError (r : Result) : Prop :=
  (r.kind = 3#3 ∨ r.kind = 4#3 ∨ r.kind = 5#3) ∧
  r = { kind := r.kind, errField := r.errField, errValue := r.errValue }

theorem Result.terminatorMismatch_isCheckError (field : BitVec 3) (raw : Byte) :
    (Result.terminatorMismatch field raw).IsCheckError :=
  ⟨.inl rfl, rfl⟩

theorem Result.fieldRange_isCheckError (field : BitVec 3) (raw : Byte) :
    (Result.fieldRange field raw).IsCheckError :=
  ⟨.inr (.inl rfl), rfl⟩

theorem Result.unknownCode_isCheckError (c : Code16) : (Result.unknownCode c).IsCheckError :=
  ⟨.inr (.inr rfl), rfl⟩

/-- An error of the checks is no READING (30_encoding.md R84). -/
theorem Result.IsCheckError.kind_ne_reading {r : Result} (h : r.IsCheckError) : r.kind ≠ 1#3 := by
  obtain ⟨hkind | hkind | hkind, -⟩ := h <;> simp [hkind]

/-- DEC of a frame that fails a check is an error (43_lookup_validator.md R190). -/
theorem dec_isCheckError {p : Params} {l : Frame} (h : ¬ (parse l).Valid p) :
    (dec p l).IsCheckError := by
  rcases dec_cases p l with ⟨-, hdec⟩ | ⟨-, -, hdec⟩ | ⟨-, -, -, hdec⟩ | ⟨-, -, -, -, hdec⟩ |
      ⟨-, -, -, -, -, hdec⟩ | ⟨hend, hstart, hdp, hann, hdisp, -⟩
  · exact hdec ▸ Result.terminatorMismatch_isCheckError _ _
  · exact hdec ▸ Result.terminatorMismatch_isCheckError _ _
  · exact hdec ▸ Result.fieldRange_isCheckError _ _
  · exact hdec ▸ Result.unknownCode_isCheckError _
  · exact hdec ▸ Result.fieldRange_isCheckError _ _
  · exact absurd ((ParsedFields.valid_iff p _).mpr ⟨hend, hstart, hdp, hann, hdisp⟩) h

/-- DEC answers a READING exactly for valid fields (43_lookup_validator.md R190). -/
theorem dec_kind_eq_reading_iff (p : Params) (l : Frame) :
    (dec p l).kind = 1#3 ↔ (parse l).Valid p := by
  constructor
  · intro hkind
    by_contra hinvalid
    exact (dec_isCheckError hinvalid).kind_ne_reading hkind
  · intro hvalid
    rw [dec_of_valid hvalid]
    rfl

/-- Settles O38: the fields are valid, or DEC is an error of the checks. -/
theorem noFabricatedReading : Obligations.NoFabricatedReading := fun p l =>
  ⟨dec_kind_eq_reading_iff p l,
    fun hkind => dec_isCheckError (mt (dec_kind_eq_reading_iff p l).mpr hkind)⟩

end Sys2Proof.Machine
end

section
/-! PROOFS. The acquisition loop (44_frame_decoder_fsm.md R200 to R227): what the operations of IDLE, DECODE,
EMIT, STOPPED and DONE do, when a stop is latched, and which transitions there are. -/

namespace Sys2Proof.Machine

/-! ### The step -/

/-- Settles O7: the step is the operation's answer taken through the edge, and the stop latch stands off in
a reset step only. -/
theorem stepRunsDecodedOperation : Obligations.StepRunsDecodedOperation := by
  intro s t i hp hdecode _ hexec
  rw [step_of_selects hp (State.decode_opw_eq_iff.mp hdecode) hexec]
  rcases stopLatch_cases s.sample t.stopReq with ⟨hrst, hlatch⟩ | ⟨hrst, hlatch⟩ <;>
    simp [State.clockEdge, hlatch, hrst]

/-- No operation but RESET writes `stop_req`: the latch beside it does (44_frame_decoder_fsm.md R220). -/
theorem exec_stopReq {s u : State} {i : Instr} (hi : i ≠ .reset) (hexec : exec i s = .next u) :
    u.stopReq = s.stopReq := by
  cases i <;> cases hexec
  case reset => exact absurd rfl hi
  case seekMark => split <;> rfl
  case seekOther | skipMark =>
    rcases s.spendByte_cases with ⟨-, hspend⟩ | ⟨-, hspend⟩ <;> rw [hspend]
  case emitRelease =>
    rcases s.release_cases with ⟨-, hrel⟩ | ⟨-, -, hrel⟩ | ⟨-, -, -, hrel⟩ <;> rw [hrel]
  all_goals rfl

/-- Outside reset `stop_req` after a step is what it was or the `stop` of that step
(44_frame_decoder_fsm.md R220). -/
theorem step_stopReq {s t : State} (hrst : s.sample.rst = false) (hstep : step s = .next t) :
    t.stopReq = (s.stopReq || s.sample.stop) := by
  obtain ⟨-, i, u, hsel, hexec, rfl⟩ := step_next_selects hstep
  have hi : i ≠ .reset := by
    rintro rfl
    simp [State.Selects, hrst] at hsel
  simp [stopLatch, hrst, exec_stopReq hi hexec]

/-- Settles O9: the latch outside reset, and the reset value in a reset step. -/
theorem stopIsLatchedInEveryState : Obligations.StopIsLatchedInEveryState := by
  intro s t hstep
  refine ⟨fun hrst hstop => ?_, fun hrst hstop => ?_, fun hrst => ?_⟩
  · simp [step_stopReq hrst hstep, hstop]
  · simp [step_stopReq hrst hstep, hstop]
  · rw [step_of_rst hrst hstep, State.resetWith_stopReq]

/-! ### IDLE, DECODE and the states that hold -/

/-- Outside SEEK, SKIP and COLLECT no byte is accepted (10_state.md R41). -/
theorem State.acceptedByte_of_fsm {s : State} (hseek : s.fsm ≠ .seek) (hskip : s.fsm ≠ .skip)
    (hcollect : s.fsm ≠ .collect) : s.acceptedByte = none :=
  State.acceptedByte_of_not_ready (by simp [State.inReady, hseek, hskip, hcollect])

/-- Settles O22: the row of IDLE.START is met. -/
theorem startBeginsIteration : Obligations.StartBeginsIteration := by
  intro s hp hfsm hrst hstart hstop
  have hsel : s.Selects .idleStart := ⟨hrst, hfsm, hstop, hstart⟩
  exact ⟨rfl, State.stepsBy_of_selects hp hrst hsel (exec_idleStart s),
    State.acceptedByte_of_fsm (by simp [hfsm]) (by simp [hfsm]) (by simp [hfsm])⟩

/-- Settles O23: the row of IDLE.STOP is met whatever `start` is, and the edge latches the stop. -/
theorem stopInIdleWins : Obligations.StopInIdleWins := by
  intro s hp hfsm hrst hstop
  have hsel : s.Selects .idleStop := ⟨hrst, hfsm, hstop⟩
  have hsteps := State.stepsBy_of_selects hp hrst hsel (exec_idleStop s)
  refine ⟨rfl, hsteps, ?_, State.handedOver_of_fsm_ne_emit (by simp [hfsm])⟩
  obtain ⟨-, hstep⟩ := hsteps
  simpa [hstop] using hstep

/-- EMIT hands nothing over while the sink stalls (10_state.md R40). -/
theorem State.handedOver_of_not_outReady {s : State} (h : s.sample.outReady = false) :
    s.handedOver = none := by
  simp [State.handedOver, h]

/-- Settles O24: the row of each holding operation is met, and its answer is the state it began in. -/
theorem holdOperationsChangeNothing : Obligations.HoldOperationsChangeNothing := by
  intro s hp hrst
  refine ⟨fun hfsm hstart hstop => ?idle, fun hfsm hready => ?emit, fun hfsm => ?stopped,
    fun hfsm => ?done⟩
  all_goals
    have haccept : s.acceptedByte = none :=
      State.acceptedByte_of_fsm (by simp [hfsm]) (by simp [hfsm]) (by simp [hfsm])
  case idle =>
    exact ⟨rfl, State.stepsBy_of_selects hp hrst ⟨hrst, hfsm, hstop, hstart⟩ (exec_idleWait s),
      haccept⟩
  case emit =>
    exact ⟨rfl, State.stepsBy_of_selects hp hrst ⟨hrst, hfsm, hready⟩ (exec_emitHold s), haccept,
      State.handedOver_of_not_outReady hready⟩
  case stopped =>
    exact ⟨rfl, State.stepsBy_of_selects hp hrst ⟨hrst, hfsm⟩ (exec_stoppedHold s), haccept,
      State.handedOver_of_fsm_ne_emit (by simp [hfsm])⟩
  case done =>
    exact ⟨rfl, State.stepsBy_of_selects hp hrst ⟨hrst, hfsm⟩ (exec_doneHold s), haccept,
      State.handedOver_of_fsm_ne_emit (by simp [hfsm])⟩

/-- Settles O25: the row of DECODE is met. -/
theorem decodeCapturesDecOfBuffer : Obligations.DecodeCapturesDecOfBuffer := by
  intro s hp hfsm hrst
  have hsel : s.Selects .decodeFrame := ⟨hrst, hfsm⟩
  obtain ⟨-, haccept, -⟩ := step_of_decode hp hrst hfsm
  exact ⟨rfl, State.stepsBy_of_selects hp hrst hsel (exec_decodeFrame s), haccept⟩

/-! ### Hand-over -/

/-- Without a stop, a result other than SOURCE_EXHAUSTED is followed by the next iteration
(44_frame_decoder_fsm.md R211). -/
theorem State.release_eq_beginIteration {s : State} (hkind : s.res.kind ≠ 6#3)
    (hreq : s.stopReq = false) (hstop : s.sample.stop = false) : s.release = s.beginIteration := by
  simp [State.release, hkind, hreq, hstop]

/-- A stop seen ends the loop at a result other than SOURCE_EXHAUSTED (44_frame_decoder_fsm.md R211). -/
theorem State.release_eq_stopped {s : State} (hkind : s.res.kind ≠ 6#3)
    (hstop : s.stopReq = true ∨ s.sample.stop = true) :
    s.release = { s with fsm := .stopped } := by
  simp [State.release, hkind, hstop]

/-- SOURCE_EXHAUSTED ends the loop, stop or not (44_frame_decoder_fsm.md R211). -/
theorem State.release_eq_done {s : State} (hkind : s.res.kind = 6#3) :
    s.release = { s with fsm := .done } := by
  simp [State.release, hkind]

/-- Settles O26: the row of EMIT.RELEASE is met, and its answer is the hand-over's. -/
theorem releaseHandsOverAndGoesOn : Obligations.ReleaseHandsOverAndGoesOn := by
  intro s hp hfsm hrst hready
  have hsel : s.Selects .emitRelease := ⟨hrst, hfsm, hready⟩
  exact ⟨(s.handedOver_eq_some_iff s.res).mpr ⟨rfl, hrst, s.outValid_iff.mpr hfsm, hready⟩,
    State.acceptedByte_of_fsm (by simp [hfsm]) (by simp [hfsm]) (by simp [hfsm]),
    s.release, rfl, State.stepsBy_of_selects hp hrst hsel (exec_emitRelease s),
    State.release_eq_done, State.release_eq_stopped, State.release_eq_beginIteration⟩

/-- EMIT.RELEASE is selected exactly when the held result is handed over (10_state.md R40). -/
theorem State.selects_emitRelease_iff {s : State} :
    s.Selects .emitRelease ↔ s.handedOver = some s.res := by
  rw [← State.decode_opw_eq_iff, s.decode_releases_iff, s.handedOver_eq_some_iff]
  exact (and_iff_right rfl).symm

/-- Every operation but IDLE.STOP and EMIT.RELEASE stays where it is or leads on to a state in which the
loop goes on (44_frame_decoder_fsm.md R225). -/
theorem exec_fsm_of_loop_goes_on {s u : State} {i : Instr} (hstop : i ≠ .idleStop)
    (hrelease : i ≠ .emitRelease) (hexec : exec i s = .next u) :
    u.fsm = s.fsm ∨ u.fsm ≠ .stopped ∧ u.fsm ≠ .done := by
  cases i <;> cases hexec
  case idleStop => exact absurd rfl hstop
  case emitRelease => exact absurd rfl hrelease
  case seekMark => split <;> exact .inr (by simp)
  case seekOther | skipMark =>
    rcases s.spendByte_cases with ⟨-, hspend⟩ | ⟨-, hspend⟩ <;> simp [hspend]
  case collectByte =>
    dsimp only
    split <;> simp
  case idleWait | seekNone | skipNone | collectNone | emitHold | stoppedHold | doneHold =>
    exact .inl rfl
  all_goals exact .inr (by simp)

/-- Settles O28: only IDLE.STOP and EMIT.RELEASE end the loop, and the hand-over says which way it goes. -/
theorem onlyStopOrExhaustionEndsLoop : Obligations.OnlyStopOrExhaustionEndsLoop := by
  intro s t hstep _
  obtain ⟨hp, i, u, hsel, hexec, rfl⟩ := step_next_selects hstep
  have hends : (u.fsm = .stopped ∨ u.fsm = .done) → s.fsm ≠ u.fsm →
      i = .idleStop ∨ i = .emitRelease := by
    intro hend hmoved
    by_contra! hgoes
    obtain ⟨hstop, hrelease⟩ := hgoes
    rcases exec_fsm_of_loop_goes_on hstop hrelease hexec with hstays | ⟨hstopped, hdone⟩
    · exact hmoved hstays.symm
    · tauto
  refine ⟨fun hstopped hfrom => ?_, fun hdone hfrom => ?_, fun hhanded hkind hreq hstop => ?_⟩
  · rw [State.clockEdge_fsm] at hstopped
    rcases hends (.inl hstopped) (hstopped ▸ hfrom) with rfl | rfl
    · obtain ⟨-, hidle, hstop⟩ := hsel
      exact .inl ⟨hidle, hstop⟩
    · cases hexec
      rcases s.release_cases with ⟨-, hrel⟩ | ⟨hkind, hstop, -⟩ | ⟨-, -, -, hrel⟩
      · simp [hrel] at hstopped
      · exact .inr ⟨State.selects_emitRelease_iff.mp hsel, hkind, hstop⟩
      · simp [hrel] at hstopped
  · rw [State.clockEdge_fsm] at hdone
    rcases hends (.inr hdone) (hdone ▸ hfrom) with rfl | rfl
    · cases hexec
      cases hdone
    · cases hexec
      rcases s.release_cases with ⟨hkind, -⟩ | ⟨-, -, hrel⟩ | ⟨-, -, -, hrel⟩
      · exact ⟨State.selects_emitRelease_iff.mp hsel, hkind⟩
      · simp [hrel] at hdone
      · simp [hrel] at hdone
  · obtain rfl : i = .emitRelease := by
      rw [← State.decode_of_selects hsel]
      exact State.decode_of_selects (State.selects_emitRelease_iff.mpr hhanded)
    cases hexec
    rw [State.release_eq_beginIteration hkind hreq hstop]
    exact ⟨hp, rfl, rfl, rfl⟩

/-! ### The transition table -/

/-- Below the budget, a byte that does not spend it leaves the count below it
(40_frame_synchronizer.md R104). -/
theorem State.budgetCnt_succ_lt {s : State} (h : s.budgetCnt.toNat < s.params.budget.toNat)
    (hunspent : s.nextCount ≠ s.params.budget) :
    s.budgetCnt.toNat + 1 < s.params.budget.toNat :=
  State.nextCount_toNat h ▸ State.nextCount_lt_budget h hunspent

/-- Below the budget, the byte that spends it brings the count up to it
(40_frame_synchronizer.md R104). -/
theorem State.budgetCnt_succ_eq {s : State} (h : s.budgetCnt.toNat < s.params.budget.toNat)
    (hspent : s.nextCount = s.params.budget) :
    s.budgetCnt.toNat + 1 = s.params.budget.toNat :=
  (State.nextCount_toNat h).symm.trans (congrArg BitVec.toNat hspent)

/-- Settles O27: the selected operation's row gives the state before the step, and its answer the state
after it, by what is left of the budget, of the frame, or by how the loop goes on. -/
theorem transitionTable : Obligations.TransitionTable := by
  intro s t hrow hstep
  refine ⟨fun hrst => ?reset, fun hrst => ?running⟩
  case reset =>
    rw [step_of_rst hrst hstep]
    exact ⟨rfl, State.decode_of_selects hrst⟩
  case running =>
    obtain ⟨-, i, u, hsel, hexec, rfl⟩ := step_next_selects hstep
    rw [State.decode_of_selects hsel, State.clockEdge_fsm]
    cases i
    case reset => simp [State.Selects, hrst] at hsel
    case seekMark =>
      obtain ⟨-, hfsm, -⟩ := hsel
      have hbudget := hrow.budgetCnt_lt (.inl hfsm)
      by_cases hspent : s.nextCount = s.params.budget
      · cases (exec_seekMark_of_spent hspent).symm.trans hexec
        simp [hfsm, State.budgetCnt_succ_eq hbudget hspent]
      · cases (exec_seekMark_of_unspent hspent).symm.trans hexec
        simp [hfsm, State.budgetCnt_succ_lt hbudget hspent]
    case collectByte =>
      obtain ⟨-, hfsm, -⟩ := hsel
      obtain ⟨-, -, -, hcol, -⟩ := hrow.of_collect hfsm
      by_cases hlast : s.colCnt.toNat + 1 = 16
      · cases (exec_collectByte_of_last hlast).symm.trans hexec
        simp [hfsm, hlast]
      · cases (exec_collectByte_of_not_last hlast).symm.trans hexec
        have hleft : s.colCnt.toNat + 1 < 16 := by omega
        simp [hfsm, hleft]
    all_goals cases hexec
    case seekOther | skipMark =>
      obtain ⟨-, hfsm, -⟩ := hsel
      have hbudget := hrow.budgetCnt_lt (by simp [hfsm])
      by_cases hspent : s.nextCount = s.params.budget
      · simp [State.spendByte_of_spent hspent, hfsm, State.budgetCnt_succ_eq hbudget hspent]
      · simp [State.spendByte_of_unspent hspent, hfsm, State.budgetCnt_succ_lt hbudget hspent]
    case emitRelease =>
      obtain ⟨-, hfsm, -⟩ := hsel
      rcases s.release_cases with ⟨hkind, hrel⟩ | ⟨hkind, hstop, hrel⟩ | ⟨hkind, hreq, hstop, hrel⟩
      · simp [hrel, hfsm, hkind]
      · simp [hrel, hfsm, hkind, hstop]
      · simp [hrel, hfsm, hkind, hreq, hstop]
    case decodeFrame | stoppedHold | doneHold =>
      obtain ⟨-, hfsm⟩ := hsel
      simp [hfsm]
    case idleWait | idleStart | idleStop | seekExhausted | seekTimeout | seekNone | skipOther
        | skipExhausted | skipTimeout | skipNone | collectExhausted | collectTimeout | collectNone
        | emitHold =>
      obtain ⟨-, hfsm, -⟩ := hsel
      simp [hfsm]

end Sys2Proof.Machine
end

section
/-! PROOFS. An iteration's result does not depend on what came before it (44_frame_decoder_fsm.md R228,
41_frame_reversal_buffer.md R139): two runs under the same port values agree in the FSM state, the
counters, the collected bytes of the buffer and the result held, and every step keeps that. -/

namespace Sys2Proof.Machine

/-! ### The collected bytes -/

/-- Two buffers hold the same bytes at the places below `n`. -/
def AgreeBelow (n : Nat) (v v' : Frame) : Prop := ∀ k : Fin 16, k.val < n → v'[k] = v[k]

theorem AgreeBelow.zero (v v' : Frame) : AgreeBelow 0 v v' :=
  fun _ hk => absurd hk (Nat.not_lt_zero _)

/-- The byte shifted in is one more in which they agree (41_frame_reversal_buffer.md R131). -/
theorem AgreeBelow.shiftIn {n : Nat} {v v' : Frame} (h : AgreeBelow n v v') (b : Byte) :
    AgreeBelow (n + 1) (shiftIn b v) (shiftIn b v') := by
  rintro ⟨_ | j, hj⟩ hk
  · rfl
  · calc (Machine.shiftIn b v')[j + 1]
        = v'[j] := shiftIn_succ b v' j hj
      _ = v[j] := h ⟨j, by omega⟩ (Nat.lt_of_succ_lt_succ hk)
      _ = (Machine.shiftIn b v)[j + 1] := (shiftIn_succ b v j hj).symm

/-- A full buffer is collected in all its places. -/
theorem AgreeBelow.eq_of_full {v v' : Frame} (h : AgreeBelow 16 v v') : v' = v :=
  Vector.ext fun k hk => h ⟨k, hk⟩ hk

/-! ### States that differ only in what an iteration overwrites -/

/-- `s'` stands where `s` stands in its iteration and is to see the same port values: they may differ in
`stop_req`, in the bytes not yet collected and, before EMIT, in the result registers. -/
structure State.InStepWith (s s' : State) : Prop where
  params : s'.params = s.params
  upcoming : s'.upcoming = s.upcoming
  cycle : s'.cycle = s.cycle
  fsm : s'.fsm = s.fsm
  budgetCnt : s'.budgetCnt = s.budgetCnt
  colCnt : s'.colCnt = s.colCnt
  buf : AgreeBelow s.colCnt.toNat s.buf s'.buf
  res : s.fsm = .emit → s'.res = s.res

section
variable {s s' : State}

theorem State.InStepWith.sample_eq (h : s.InStepWith s') : s'.sample = s.sample := by
  simp only [State.sample, h.upcoming, h.cycle]

/-- The selector word reads nothing in which they may differ (30_encoding.md R80). -/
theorem State.InStepWith.opw_eq (h : s.InStepWith s') : s'.opw = s.opw := by
  simp only [State.opw, State.selector, State.markerSeen, h.sample_eq, h.params, h.fsm]

theorem State.InStepWith.nextCount_eq (h : s.InStepWith s') : s'.nextCount = s.nextCount := by
  simp only [State.nextCount, h.budgetCnt]

theorem State.InStepWith.countByte (h : s.InStepWith s') : s.countByte.InStepWith s'.countByte :=
  { h with budgetCnt := h.nextCount_eq }

/-- Capture of one result in both. -/
theorem State.InStepWith.finish (h : s.InStepWith s') (r : Result) :
    (s.finish r).InStepWith (s'.finish r) :=
  { h with fsm := rfl, res := fun _ => rfl }

/-- The coming byte spends the budget in both or in neither (40_frame_synchronizer.md R104). -/
theorem State.InStepWith.spent_iff (h : s.InStepWith s') :
    s'.nextCount = s'.params.budget ↔ s.nextCount = s.params.budget := by
  rw [h.nextCount_eq, h.params]

theorem State.InStepWith.spendByte (h : s.InStepWith s') : s.spendByte.InStepWith s'.spendByte := by
  by_cases hspent : s.nextCount = s.params.budget
  · rw [State.spendByte_of_spent hspent, State.spendByte_of_spent (h.spent_iff.mpr hspent)]
    exact h.countByte.finish _
  · rw [State.spendByte_of_unspent hspent, State.spendByte_of_unspent (mt h.spent_iff.mp hspent)]
    exact h.countByte

theorem State.InStepWith.beginIteration (h : s.InStepWith s') :
    s.beginIteration.InStepWith s'.beginIteration :=
  { h with
    fsm := rfl
    budgetCnt := rfl
    colCnt := rfl
    buf := AgreeBelow.zero _ _
    res := fun hemit => by cases hemit }

/-- A move to STOPPED needs nothing of the result registers. -/
theorem State.InStepWith.stop (h : s.InStepWith s') :
    State.InStepWith { s with fsm := .stopped } { s' with fsm := .stopped } :=
  { h with fsm := rfl, res := fun hemit => by cases hemit }

theorem State.InStepWith.resetRegisters (h : s.InStepWith s') :
    s.resetRegisters.InStepWith s'.resetRegisters :=
  { h with
    fsm := rfl
    budgetCnt := rfl
    colCnt := rfl
    buf := AgreeBelow.zero _ _
    res := fun _ => rfl }

/-- A byte kept in both, in a state that is not EMIT: one more place of the buffer is collected. -/
theorem State.InStepWith.collect (h : s.InStepWith s') {c : BitVec 5} {f : Fsm} (b : Byte)
    (hcol : c.toNat ≤ s.colCnt.toNat + 1) (hfsm : f ≠ .emit) :
    State.InStepWith { s.shiftIn b with colCnt := c, fsm := f }
      { s'.shiftIn b with colCnt := c, fsm := f } :=
  { h with
    fsm := rfl
    colCnt := rfl
    buf := fun k hk => h.buf.shiftIn b k (Nat.lt_of_lt_of_le hk hcol)
    res := fun hemit => absurd hemit hfsm }

/-- The edge drops the same port values in both. -/
theorem State.InStepWith.clockEdge {u u' : State} (h : s.InStepWith s') (hu : u.InStepWith u') :
    (s.clockEdge u).InStepWith (s'.clockEdge u') :=
  { hu with
    upcoming := congrArg List.tail h.upcoming
    cycle := congrArg Nat.succ h.cycle }

/-! ### Steps and runs -/

/-- An operation other than EMIT.RELEASE, which reads `stop_req`, keeps the two in step. -/
theorem State.InStepWith.exec {u u' : State} {i : Instr} (h : s.InStepWith s') (hrow : s.RowInv)
    (hsel : s.Selects i) (hrelease : i ≠ .emitRelease) (hexec : exec i s = .next u)
    (hexec' : Machine.exec i s' = .next u') : u.InStepWith u' := by
  cases i
  case emitRelease => exact absurd rfl hrelease
  case seekMark =>
    by_cases hspent : s.nextCount = s.params.budget
    · cases (exec_seekMark_of_spent hspent).symm.trans hexec
      cases (exec_seekMark_of_spent (h.spent_iff.mpr hspent)).symm.trans hexec'
      exact h.countByte.finish _
    · cases (exec_seekMark_of_unspent hspent).symm.trans hexec
      cases (exec_seekMark_of_unspent (mt h.spent_iff.mp hspent)).symm.trans hexec'
      rw [h.params]
      exact h.countByte.collect _ (Nat.le_add_left 1 _) (by decide)
  case skipOther =>
    obtain ⟨-, hfsm, -⟩ := hsel
    obtain ⟨-, -, hcol, -⟩ := hrow.of_skip hfsm
    cases hexec
    cases hexec'
    rw [h.sample_eq]
    exact h.countByte.collect _ (by simp [hcol]) (by decide)
  case collectByte =>
    obtain ⟨-, hfsm, -⟩ := hsel
    cases hexec
    cases hexec'
    rw [h.sample_eq, h.colCnt, h.fsm]
    refine h.collect _ (by bv_omega) ?_
    split
    · decide
    · simp [hfsm]
  case decodeFrame =>
    obtain ⟨-, hfsm⟩ := hsel
    obtain ⟨-, -, hcol, -⟩ := hrow.of_decode hfsm
    have hbuf : s'.buf = s.buf := AgreeBelow.eq_of_full (by simpa [hcol] using h.buf)
    cases hexec
    cases hexec'
    rw [h.params, hbuf]
    exact h.finish _
  all_goals
    cases hexec
    cases hexec'
  case reset => exact h.resetRegisters
  case idleStart => exact h.beginIteration
  case idleStop => exact h.stop
  case seekOther | skipMark => exact h.spendByte
  case seekExhausted | seekTimeout | skipExhausted | skipTimeout | collectExhausted
      | collectTimeout =>
    exact h.finish _
  case idleWait | seekNone | skipNone | collectNone | emitHold | stoppedHold | doneHold => exact h

/-- A step that hands nothing over keeps the two in step. -/
theorem State.InStepWith.step {t : State} (h : s.InStepWith s') (hrow : s.RowInv)
    (hhanded : s.handedOver = none) (hstep : step s = .next t) :
    ∃ t', Machine.step s' = .next t' ∧ t.InStepWith t' := by
  obtain ⟨hp, i, u, hsel, hexec, rfl⟩ := step_next_selects hstep
  have hrelease : i ≠ .emitRelease := by
    rintro rfl
    cases hhanded.symm.trans (State.selects_emitRelease_iff.mp hsel)
  have hsel' : s'.Selects i := by
    rw [← State.decode_opw_eq_iff, h.opw_eq]
    exact State.decode_of_selects hsel
  obtain ⟨u', hexec'⟩ := exec_answers_next i s'
  exact ⟨_, step_of_selects (h.params ▸ hp) hsel' hexec',
    h.clockEdge (h.exec hrow hsel hrelease hexec hexec')⟩

/-- Inversion of a run of one more step. -/
theorem run_succ_inv {n : Nat} {s t : State}
    (h : Host.Core.run Sys2Proof.core (n + 1) s = .next t) :
    ∃ u, Machine.step s = .next u ∧ Host.Core.run Sys2Proof.core n u = .next t := by
  cases hstep : Machine.step s with
  | next u => exact ⟨u, rfl, (run_succ_of_step n hstep).symm.trans h⟩
  | fault _ | refused _ =>
    have hcore : Sys2Proof.core.step s = _ := hstep
    simp [Host.Core.run, hcore] at h

/-- A run that hands nothing over keeps the two in step. -/
theorem State.InStepWith.run {n : Nat} {t : State} (h : s.InStepWith s') (hrow : s.RowInv)
    (hhanded : handedIn n s = []) (hrun : Host.Core.run Sys2Proof.core n s = .next t) :
    ∃ t', Host.Core.run Sys2Proof.core n s' = .next t' ∧ t.InStepWith t' := by
  induction n generalizing s s' with
  | zero =>
    cases hrun
    exact ⟨s', rfl, h⟩
  | succ n ih =>
    obtain ⟨u, hstep, hrest⟩ := run_succ_inv hrun
    simp only [handedIn, hstep, List.append_eq_nil_iff, Option.toList_eq_nil_iff] at hhanded
    obtain ⟨hnone, hhanded'⟩ := hhanded
    obtain ⟨u', hstep', hu⟩ := h.step hrow hnone hstep
    obtain ⟨t', hrun', ht⟩ := ih hu (everyStepKeepsRowInvariant s u hrow hstep) hhanded' hrest
    exact ⟨t', (run_succ_of_step n hstep').trans hrun', ht⟩

/-- Two fresh iterations have collected nothing yet. -/
theorem State.Fresh.inStepWith (hfresh : s.Fresh) (hfresh' : s'.Fresh)
    (hparams : s'.params = s.params) (hupcoming : s'.upcoming = s.upcoming)
    (hcycle : s'.cycle = s.cycle) : s.InStepWith s' := by
  obtain ⟨-, hfsm, hbudget, hcol⟩ := hfresh
  obtain ⟨-, hfsm', hbudget', hcol'⟩ := hfresh'
  exact {
    params := hparams
    upcoming := hupcoming
    cycle := hcycle
    fsm := hfsm'.trans hfsm.symm
    budgetCnt := hbudget'.trans hbudget.symm
    colCnt := hcol'.trans hcol.symm
    buf := by simpa [hcol] using AgreeBelow.zero s.buf s'.buf
    res := fun hemit => by cases hfsm.symm.trans hemit }

end

/-- Settles O51: the two iterations begin in step, and stay so until a result is handed over. -/
theorem resultDoesNotDependOnEarlierIterations :
    Obligations.ResultDoesNotDependOnEarlierIterations := by
  intro n s s' t hfresh hfresh' hparams hupcoming hcycle hhanded hrun
  have hinStep := hfresh.inStepWith hfresh' hparams hupcoming hcycle
  obtain ⟨hrow, -⟩ := hfresh.started
  obtain ⟨t', hrun', ht⟩ := hinStep.run hrow hhanded hrun
  exact ⟨t', hrun', ht.fsm, ht.budgetCnt, ht.colCnt, ht.res⟩

end Sys2Proof.Machine
end

section
/-! PROOFS. A held result in EMIT (60_exceptions.md R252): a capture begins in a working state, never in EMIT,
and a stalled sink selects EMIT.HOLD. -/

namespace Sys2Proof.Machine

/-- No step from EMIT captures, so each keeps the result registers (60_exceptions.md R252). -/
theorem step_res_of_emit {s t : State} (hrst : s.sample.rst = false) (hfsm : s.fsm = .emit)
    (hstep : step s = .next t) : t.res = s.res := by
  by_contra hchanged
  obtain ⟨-, hworking, -, -⟩ := resultChangesOnlyOnCapture s t hstep hrst hchanged
  simp [hfsm] at hworking

/-- While the sink stalls the step from EMIT is EMIT.HOLD (44_frame_decoder_fsm.md R210), beside which only
the stop latch acts (R220). -/
theorem State.stepsBy_emitHold_of_stalled {s : State} (hp : s.params.wellFormed = true)
    (hrst : s.sample.rst = false) (hfsm : s.fsm = .emit) (hready : s.sample.outReady = false) :
    s.StepsBy .emitHold s :=
  State.stepsBy_of_selects hp hrst ⟨hrst, hfsm, hready⟩ (exec_emitHold s)

/-- Settles O29: EMIT is no state a capture begins in, and the step of a stalled sink is determined. -/
theorem heldResultIsNeverOverwritten : Obligations.HeldResultIsNeverOverwritten := by
  intro s t hstep hrst hfsm
  refine ⟨step_res_of_emit hrst hfsm hstep, fun hready => ?_⟩
  obtain ⟨hp, -⟩ := step_next_inv hstep
  obtain ⟨-, hhold⟩ := State.stepsBy_emitHold_of_stalled hp hrst hfsm hready
  exact Host.Outcome.next.inj (hstep.symm.trans hhold)

end Sys2Proof.Machine
end

section
/-! PROOFS. The parameters (70_reset_and_hazards.md R275 item 1) and the reset step (R270). -/

namespace Sys2Proof.Machine

/-! ### The parameters -/

theorem State.spendByte_params (s : State) : s.spendByte.params = s.params := by
  rcases s.spendByte_cases with ⟨-, hspend⟩ | ⟨-, hspend⟩ <;> rw [hspend]

theorem State.release_params (s : State) : s.release.params = s.params := by
  rcases s.release_cases with ⟨-, hrel⟩ | ⟨-, -, hrel⟩ | ⟨-, -, -, hrel⟩ <;> rw [hrel]

/-- No operation writes a parameter, RESET included (log entry 1). -/
theorem exec_params {s u : State} {i : Instr} (hexec : exec i s = .next u) :
    u.params = s.params := by
  cases i <;> cases hexec
  case seekMark => split <;> rfl
  case seekOther | skipMark => exact s.spendByte_params
  case emitRelease => exact s.release_params
  all_goals rfl

/-- Settles O11: no operation writes a parameter, and what the edge does beside it leaves them alone. -/
theorem parametersNeverChange : Obligations.ParametersNeverChange := by
  intro s t hstep
  obtain ⟨-, u, hexec, rfl⟩ := step_next_inv hstep
  exact (s.clockEdge_params u).trans (exec_params hexec)

/-! ### The reset step -/

/-- Under reset no byte is accepted, whatever the source offers (10_state.md R39). -/
theorem State.acceptedByte_of_rst {s : State} (h : s.sample.rst = true) : s.acceptedByte = none := by
  simp [State.acceptedByte, h]

/-- Under reset no result is handed over, even to a ready sink (10_state.md R40). -/
theorem State.handedOver_of_rst {s : State} (h : s.sample.rst = true) : s.handedOver = none := by
  simp [State.handedOver, h]

/-- Settles O13: the row of RESET is met whatever the other ports carry, and neither handshake completes. -/
theorem resetStepWritesEveryRegister : Obligations.ResetStepWritesEveryRegister := by
  intro s hp hrst
  have hsel : s.Selects .reset := hrst
  have hstep := step_of_selects hp hsel (exec_reset s)
  exact ⟨State.decode_of_selects hsel, rfl, step_of_rst hrst hstep ▸ hstep,
    State.acceptedByte_of_rst hrst, State.handedOver_of_rst hrst⟩

end Sys2Proof.Machine
end

section
/-! PROOFS. Under the source's liveness duty an iteration ends (70_reset_and_hazards.md R280): at every edge
a byte is taken from the bytes that the iteration can still accept, or the result is captured. -/

namespace Sys2Proof.Machine

/-- Under legal parameters every step is taken (60_exceptions.md R240). -/
theorem exists_step_next {s : State} (hp : s.params.wellFormed = true) : ∃ t, step s = .next t := by
  obtain ⟨u, hexec⟩ := exec_answers_next (decode s.opw) s
  exact ⟨_, step_of_selects hp s.selects_decode hexec⟩

/-! ### One edge with an outcome -/

/-- An iteration whose result is not captured yet: its row holds and it is in one of the four states that
capture (60_exceptions.md R250). -/
def State.Acquiring (s : State) : Prop :=
  s.RowInv ∧ (s.fsm = .seek ∨ s.fsm = .skip ∨ s.fsm = .collect ∨ s.fsm = .decode)

theorem State.Acquiring.started {s : State} (h : s.Acquiring) : s.Started := by
  obtain ⟨hrow, hfsm⟩ := h
  exact ⟨hrow, fun hidle => by simp [hidle] at hfsm⟩

theorem State.Acquiring.handedOver_eq_none {s : State} (h : s.Acquiring) : s.handedOver = none := by
  obtain ⟨-, hfsm⟩ := h
  exact State.handedOver_of_fsm_ne_emit fun hemit => by simp [hemit] at hfsm

/-- Outside reset an iteration goes on until its result is captured: IDLE is reached by a reset only, and
the loop ends from EMIT (44_frame_decoder_fsm.md R225, R227). -/
theorem State.Acquiring.step {s t : State} (h : s.Acquiring) (hrst : s.sample.rst = false)
    (hstep : Machine.step s = .next t) : t.fsm = .emit ∨ t.Acquiring := by
  obtain ⟨hrow, hidle⟩ := h.started.step hrst hstep
  obtain ⟨hstopped, hdone, -⟩ := onlyStopOrExhaustionEndsLoop s t hstep hrst
  have hhanded := h.handedOver_eq_none
  obtain ⟨-, hfsm⟩ := h
  cases hfsm' : t.fsm with
  | idle => exact absurd hfsm' hidle
  | seek | skip | collect | decode => exact .inr ⟨hrow, by simp [hfsm']⟩
  | emit => exact .inl rfl
  | stopped =>
    have hend := hstopped hfsm' (fun hs => by simp [hs] at hfsm)
    rcases hend with ⟨hs, -⟩ | ⟨hsome, -⟩
    · simp [hs] at hfsm
    · simp [hhanded] at hsome
  | done =>
    obtain ⟨hsome, -⟩ := hdone hfsm' (fun hs => by simp [hs] at hfsm)
    simp [hhanded] at hsome

/-- Where a byte is awaited, an edge without one but with exhaustion or a timeout captures the result
(40_frame_synchronizer.md R105, R106, R110, R111, 41_frame_reversal_buffer.md R135, R137). -/
theorem State.exists_stepsBy_capture {s : State} (hp : s.params.wellFormed = true)
    (hready : s.inReady = true) (hrst : s.sample.rst = false) (hvalid : s.sample.inValid = false)
    (hend : s.sample.inTimeout = true ∨ s.sample.inExhausted = true) :
    ∃ i r, s.StepsBy i { s with res := r, fsm := .emit } := by
  rw [s.inReady_iff] at hready
  cases hexhausted : s.sample.inExhausted with
  | true =>
    obtain ⟨-, hseek, hskip, hcollect⟩ := exhaustionEndsIteration s hp hrst hvalid hexhausted
    rcases hready with hfsm | hfsm | hfsm
    exacts [⟨_, _, (hseek hfsm).2⟩, ⟨_, _, (hskip hfsm).2⟩, ⟨_, _, (hcollect hfsm).2⟩]
  | false =>
    have htimeout : s.sample.inTimeout = true := by simpa [hexhausted] using hend
    obtain ⟨-, hseek, hskip, hcollect⟩ := timeoutEndsIteration s hp hrst hvalid hexhausted htimeout
    rcases hready with hfsm | hfsm | hfsm
    exacts [⟨_, _, (hseek hfsm).2⟩, ⟨_, _, (hskip hfsm).2⟩, ⟨_, _, (hcollect hfsm).2⟩]

/-- An edge with an outcome captures the result or takes a byte from those left. -/
theorem State.Acquiring.progress {s t : State} (h : s.Acquiring) (hout : s.sample.givesOutcome)
    (hstep : Machine.step s = .next t) : t.fsm = .emit ∨ t.Acquiring ∧ t.bytesLeft < s.bytesLeft := by
  obtain ⟨hp, -⟩ := step_next_inv hstep
  obtain ⟨hrst, houtcome⟩ := hout
  by_cases hdecode : s.fsm = .decode
  · obtain ⟨hcapture, -⟩ := step_of_decode hp hrst hdecode
    cases hstep.symm.trans hcapture
    exact .inl rfl
  · have hready : s.inReady = true := by
      obtain ⟨-, hfsm⟩ := h
      exact s.inReady_iff.mpr (by tauto)
    cases hvalid : s.sample.inValid with
    | true =>
      refine (h.step hrst hstep).imp_right fun hacquiring => ⟨hacquiring, ?_⟩
      have hless := h.started.bytesLeft_step hrst h.handedOver_eq_none hstep
      simp only [State.acceptedByte_of_valid hready hrst hvalid, Option.toList_some,
        List.length_singleton] at hless
      omega
    | false =>
      have hend : s.sample.inTimeout = true ∨ s.sample.inExhausted = true := by
        simpa [hvalid] using houtcome
      obtain ⟨i, r, -, hcapture⟩ := State.exists_stepsBy_capture hp hready hrst hvalid hend
      cases hstep.symm.trans hcapture
      exact .inl rfl

/-! ### A run of edges with an outcome -/

/-- Under legal parameters the coming edges `ins` each give an outcome, and `rest` follows
(70_reset_and_hazards.md R280 item 2). -/
structure State.Answered (s : State) (ins rest : List Inputs) : Prop where
  legal : s.params.wellFormed = true
  upcoming : s.upcoming = ins ++ rest
  outcomes : ∀ i ∈ ins, i.givesOutcome

section
variable {s t : State} {i : Inputs} {ins rest : List Inputs}

theorem State.Answered.sample_givesOutcome (h : s.Answered (i :: ins) rest) :
    s.sample.givesOutcome :=
  State.sample_of_upcoming h.upcoming ▸ h.outcomes i List.mem_cons_self

/-- After a step the edges that are still to come each give an outcome. -/
theorem State.Answered.step (h : s.Answered (i :: ins) rest) (hstep : Machine.step s = .next t) :
    t.Answered ins rest where
  legal := parametersNeverChange s t hstep ▸ h.legal
  upcoming := by
    obtain ⟨-, u, -, rfl⟩ := step_next_inv hstep
    simp [h.upcoming]
  outcomes := fun j hj => h.outcomes j (List.mem_cons_of_mem i hj)

/-- One edge with an outcome for each byte left, and one more for DECODE, lead to the capture. -/
theorem State.Acquiring.reachesEmit (h : s.Acquiring) (hanswered : s.Answered ins rest)
    (hleft : s.bytesLeft < ins.length) :
    ∃ n t, n ≤ ins.length ∧ Host.Core.run Sys2Proof.core n s = .next t ∧ t.fsm = .emit := by
  induction ins generalizing s with
  | nil => simp at hleft
  | cons i ins ih =>
    rw [List.length_cons] at hleft ⊢
    obtain ⟨u, hstep⟩ := exists_step_next hanswered.legal
    rcases h.progress hanswered.sample_givesOutcome hstep with hemit | ⟨hu, hless⟩
    · exact ⟨1, u, by omega, run_succ_of_step 0 hstep, hemit⟩
    · obtain ⟨n, t, hn, hrun, hemit⟩ := ih hu (hanswered.step hstep) (by omega)
      exact ⟨n + 1, t, by omega, (run_succ_of_step n hstep).trans hrun, hemit⟩

end

/-- Settles O50: a fresh iteration has BUDGET + 14 bytes left, one less than there are edges. -/
theorem iterationEndsWhenSourceAnswers : Obligations.IterationEndsWhenSourceAnswers := by
  intro s ins rest hfresh hupcoming houtcomes hlength
  obtain ⟨hrow, -⟩ := hfresh.started
  obtain ⟨hp, hfsm, hbudget, -⟩ := hfresh
  have hleft : s.bytesLeft = s.params.budget.toNat + 14 := by
    simp [State.bytesLeft_of_sync (.inl hfsm), hbudget]
  rw [← hlength]
  exact State.Acquiring.reachesEmit ⟨hrow, .inl hfsm⟩ ⟨hp, hupcoming, houtcomes⟩ (by omega)

end Sys2Proof.Machine
end
